-- ==== Sys2Proof/Word.lean ====
section
/-! DEFINITION. The byte, the unit of frames, messages and stored contents (00_scope 0.5). -/

namespace Sys2Proof

/-- One byte: a byte lane of a block, or a byte of a frame (0.5, R134). -/
abbrev Byte := BitVec 8

end Sys2Proof
end

