-- ==== Sys2Proof/Config.lean ====
section
/-! DEFINITION. What the manual leaves open: the free values of the array at power-on (R18). -/

namespace Sys2Proof

/-- The integrity condition of a block (R13). -/
inductive Condition where
  | good
  | correctable
  | uncorrectable
  deriving DecidableEq, Repr, Inhabited

/-- The byte that byte address `addr` (32 x block + lane) holds after the `n`-th power-on until it is written: R18 calls
the contents arbitrary. A free value: it has no body (log 4). -/
opaque Config.powerOnByte : Nat → Nat → Byte

/-- The integrity condition of block `block` after the `n`-th power-on until a write or a cell fault reaches it: R18
calls it arbitrary. A free value: it has no body (log 4). -/
opaque Config.powerOnCondition : Nat → Nat → Condition

end Sys2Proof
end

