-- ==== Sys2Proof/Syntax.lean ====
section
/-! DEFINITION. The commands of the part: one constructor of `Instr` for each row of spec/opcode_table.json, and the
requests a processor's MSG frame may carry (Tables 9-2 to 9-4). -/

namespace Sys2Proof

/-- One of the two ports (0.7). -/
inductive Port where
  | a
  | b
  deriving DecidableEq, Repr

/-- The operations of ATOMIC (R81), coded 1 to 5 (R155). -/
inductive AtomicOp where
  | fetchAdd
  | swap
  | compareSwap
  | fetchAnd
  | fetchOr
  deriving DecidableEq, Repr

/-- A memory request, its form checked (Table 9-3). Blocks of data are lists of 32 bytes, lane 0 first; the count of a
WRITE or MASKED-WRITE is the number of its data blocks. -/
inductive MemRequest where
  | read (first count : Nat)
  | write (first : Nat) (data : List (List Byte))
  | maskedWrite (first : Nat) (masks : List (BitVec 32)) (data : List (List Byte))
  | atomic (block : Nat) (op : AtomicOp) (offset : Nat) (operand1 operand2 : BitVec 64)
  | barrier
  deriving DecidableEq, Repr

/-- A management request, its form checked (Table 9-4); operand values are not checked yet (R157). The pattern of a
FILL-START has lane 0 in its low byte. -/
inductive MgmtRequest where
  | configGet (key : BitVec 32)
  | configSet (key value : BitVec 32)
  | status (clear : Bool)
  | regionGet (slot : Byte)
  | regionSet (slot : Byte) (first count : BitVec 32) (enable rightsA rightsB : Byte)
  | errorFetch
  | errorClear (number : BitVec 32)
  | fillStart (first count : BitVec 32) (pattern : BitVec 64)
  | fillAbort
  | retainVote
  | retainWithdraw
  | calibrate
  | restart
  deriving DecidableEq, Repr

/-- The commands: one constructor for each row of spec/opcode_table.json, in the table's order. -/
inductive Instr where
  /-- POWER_ON (R175); `rstHigh` is the level of RST_N as supply is applied. -/
  | powerOn (rstHigh : Bool)
  /-- POWER_ON_RESET_END (R176); `ownerSelHigh` is the level of OWNER_SEL. -/
  | powerOnResetEnd (ownerSelHigh : Bool)
  /-- PIN_RESET_ASSERT (R175). -/
  | pinResetAssert
  /-- RESET_RELEASE (R176); `ownerSelHigh` is the level of OWNER_SEL. -/
  | resetRelease (ownerSelHigh : Bool)
  /-- CELL_FAULT (R14). -/
  | cellFault (block : BitVec 25)
  /-- TEMPERATURE_READING (R94), in degrees Celsius. -/
  | temperatureReading (celsius : Int)
  /-- START_UP_READING (R95), in degrees Celsius. -/
  | startUpReading (celsius : Int)
  /-- MSG (R137): a good MSG frame's header fields and body. -/
  | msg (port : Port) (seq ackSeq : Byte) (ackValid : Bool) (body : List Byte)
  /-- ACK (R141): a good ACK frame's header fields. -/
  | ack (port : Port) (seq ackSeq : Byte) (ackValid : Bool)
  /-- REPLAY_REQ (R142): the number it names. -/
  | replayReq (port : Port) (number : Byte)
  /-- TRAIN (R135): the protocol revision. -/
  | train (port : Port) (revision : Byte)
  /-- LINK_DOWN_FRAME (R149): its body, which the part disregards. -/
  | linkDownFrame (port : Port) (reason : Byte)
  /-- BAD_FRAME (R138). -/
  | badFrame (port : Port)
  /-- REPLAY_REQUEST_TIMER_EXPIRY (R138). -/
  | replayRequestTimerExpiry (port : Port)
  /-- ACKNOWLEDGEMENT_TIMER_EXPIRY (R139). -/
  | acknowledgementTimerExpiry (port : Port)
  /-- REPLAY_TIMER_EXPIRY (R143). -/
  | replayTimerExpiry (port : Port)
  /-- OUTGOING_ARBITER_TAKE (R147). -/
  | outgoingArbiterTake (port : Port)
  /-- FRAME_RESEND (R140). -/
  | frameResend (port : Port)
  /-- OPENING_GRANT (R52). -/
  | openingGrant
  /-- OPEN_DELAY_COMPLETE (R5). -/
  | openDelayComplete (bank : Fin 16)
  /-- MINIMUM_OPEN_COMPLETE (R5). -/
  | minimumOpenComplete (bank : Fin 16)
  /-- READ_TO_CLOSE_COMPLETE (R6). -/
  | readToCloseComplete (bank : Fin 16)
  /-- WRITE_RECOVERY_COMPLETE (R6). -/
  | writeRecoveryComplete (bank : Fin 16)
  /-- TURNAROUND_COMPLETE (R10). -/
  | turnaroundComplete
  /-- CLOSE_BEGIN (R55). -/
  | closeBegin (bank : Fin 16)
  /-- CLOSE_COMPLETE (R7). -/
  | closeComplete (bank : Fin 16)
  /-- REFRESH_COMPLETE (R8). -/
  | refreshComplete (bank : Fin 16)
  /-- FIRST_ACCESS_GRANT (R62). -/
  | firstAccessGrant
  /-- WRITE_BACK_GRANT (R63). -/
  | writeBackGrant
  /-- READ_TRANSFER_END (R11). -/
  | readTransferEnd
  /-- WRITE_TRANSFER_END (R12). -/
  | writeTransferEnd
  /-- WINDOW_SLOT_EXPIRY (R48). -/
  | windowSlotExpiry
  /-- SPACING_COMPLETE (R49). -/
  | spacingComplete
  /-- IDLE_CLOSE_EXPIRY (R57). -/
  | idleCloseExpiry (bank : Fin 16)
  /-- INTERVAL_EXPIRY (R88). -/
  | intervalExpiry (bank : Fin 16)
  /-- CALIBRATION_TIMER_EXPIRY (R98). -/
  | calibrationTimerExpiry
  /-- CALIBRATION_RUN_BEGIN (R100). -/
  | calibrationRunBegin
  /-- CALIBRATION_RUN_COMPLETE (R101). -/
  | calibrationRunComplete
  /-- STEP_TIMER_EXPIRY (R108). -/
  | stepTimerExpiry
  /-- NAP_IDLE_TIMER_EXPIRY (R178). -/
  | napIdleTimerExpiry
  /-- NAP_ENTRY (R178). -/
  | napEntry
  /-- NAP_EXIT_DELAY_COMPLETE (R64). -/
  | napExitDelayComplete
  /-- TIME_BASE_TICK (R177). -/
  | timeBaseTick
  /-- STARTUP_END (R176). -/
  | startupEnd
  /-- ENTERING_BEGIN (R181). -/
  | enteringBegin
  /-- RETAIN_ENTRY (R182). -/
  | retainEntry
  /-- WAKING_END (R185). -/
  | wakingEnd
  /-- RESTART_TAKES_EFFECT (R173). -/
  | restartTakesEffect
  /-- CONFIG_GET (R168). -/
  | configGet (port : Port) (tag : Byte) (key : BitVec 32)
  /-- CONFIG_SET (R169). -/
  | configSet (port : Port) (tag : Byte) (key value : BitVec 32)
  /-- STATUS (R170). -/
  | status (port : Port) (tag : Byte) (clear : Bool)
  /-- REGION_GET (R131). -/
  | regionGet (port : Port) (tag slot : Byte)
  /-- REGION_SET (R130). -/
  | regionSet (port : Port) (tag slot : Byte) (first count : BitVec 32) (enable rightsA rightsB : Byte)
  /-- ERROR_FETCH (R123). -/
  | errorFetch (port : Port) (tag : Byte)
  /-- ERROR_CLEAR (R124). -/
  | errorClear (port : Port) (tag : Byte) (number : BitVec 32)
  /-- FILL_START (R111). -/
  | fillStart (port : Port) (tag : Byte) (first count : BitVec 32) (pattern : BitVec 64)
  /-- FILL_ABORT (R116). -/
  | fillAbort (port : Port) (tag : Byte)
  /-- RETAIN_VOTE (R180). -/
  | retainVote (port : Port) (tag : Byte)
  /-- RETAIN_WITHDRAW (R180). -/
  | retainWithdraw (port : Port) (tag : Byte)
  /-- CALIBRATE (R102). -/
  | calibrate (port : Port) (tag : Byte)
  /-- RESTART (R172). -/
  | restart (port : Port) (tag : Byte)
  deriving DecidableEq, Repr

end Sys2Proof
end

