-- ==== Sys2Proof/WellFormed.lean ====
section
/-! DEFINITION. Which commands can arrive: the operand ranges the manual gives that the operand's type does not. -/

namespace Sys2Proof

/-- A temperature reading is a whole number of degrees Celsius from -40 to 125 (R93). -/
def readingInRange (celsius : Int) : Bool := decide (-40 ≤ celsius ∧ celsius ≤ 125)

/-- The length field of a good MSG frame is no more than 300 (R134). -/
def bodyFits (body : List Byte) : Bool := decide (body.length ≤ 300)

/-- The commands that can arrive. Every other operand is in range by its type: 25-bit block numbers (R1), banks 0 to 15,
one-byte numbers, tags and revisions, four-byte operands (Table 9-4). -/
def Instr.wellFormed : Instr → Bool
  | .temperatureReading r => readingInRange r
  | .startUpReading r => readingInRange r
  | .msg _ _ _ _ body => bodyFits body
  | .powerOn _ | .powerOnResetEnd _ | .pinResetAssert | .resetRelease _ | .cellFault _ => true
  | .ack .. | .replayReq .. | .train .. | .linkDownFrame .. | .badFrame _ => true
  | .replayRequestTimerExpiry _ | .acknowledgementTimerExpiry _ | .replayTimerExpiry _ => true
  | .outgoingArbiterTake _ | .frameResend _ => true
  | .openingGrant | .openDelayComplete _ | .minimumOpenComplete _ | .readToCloseComplete _ => true
  | .writeRecoveryComplete _ | .turnaroundComplete | .closeBegin _ | .closeComplete _ | .refreshComplete _ => true
  | .firstAccessGrant | .writeBackGrant | .readTransferEnd | .writeTransferEnd => true
  | .windowSlotExpiry | .spacingComplete | .idleCloseExpiry _ | .intervalExpiry _ => true
  | .calibrationTimerExpiry | .calibrationRunBegin | .calibrationRunComplete | .stepTimerExpiry => true
  | .napIdleTimerExpiry | .napEntry | .napExitDelayComplete | .timeBaseTick => true
  | .startupEnd | .enteringBegin | .retainEntry | .wakingEnd | .restartTakesEffect => true
  | .configGet .. | .configSet .. | .status .. | .regionGet .. | .regionSet .. => true
  | .errorFetch .. | .errorClear .. | .fillStart .. | .fillAbort .. => true
  | .retainVote .. | .retainWithdraw .. | .calibrate .. | .restart .. => true

end Sys2Proof
end

