-- ==== Sys2Proof/Decode.lean ====
section
/-! DEFINITION. Commands from bits. No row of the table gives bits, so a table word spells none. The frames of a
processor, which the manual does lay out bit by bit (R134), are decoded and encoded here, with the byte-order helpers. -/

namespace Sys2Proof

/-- The command that a word spells by the table's bits: no row of spec/opcode_table.json gives bits. -/
def decodeTableWord (_nbits _w : Nat) : Option Instr := none

/-- The `n` low bytes of `v`, least significant byte first (0.5). -/
def leBytes (n v : Nat) : List Byte := (List.range n).map fun i => BitVec.ofNat 8 (v / 256 ^ i)

/-- The number that bytes stand for, least significant byte first (0.5). -/
def leNat (bytes : List Byte) : Nat := bytes.foldr (fun b acc => b.toNat + 256 * acc) 0

/-- One bit of the CRC-32 register: generator 04C11DB7h with its bits reflected is EDB88320h (R134). -/
def crcBit (r : BitVec 32) : BitVec 32 :=
  if r.getLsbD 0 then (r >>> 1) ^^^ 0xEDB88320#32 else r >>> 1

/-- One byte of the CRC-32 register, bits reflected (R134). -/
def crcByte (r : BitVec 32) (b : Byte) : BitVec 32 :=
  crcBit (crcBit (crcBit (crcBit (crcBit (crcBit (crcBit (crcBit (r ^^^ b.setWidth 32))))))))

/-- The CRC-32 of header and body: initial value FFFFFFFFh, final complement (R134). -/
def crc32 (bytes : List Byte) : BitVec 32 := ~~~ (bytes.foldl crcByte 0xFFFFFFFF#32)

/-- The 8-byte frame header of Table 8-2. -/
def frameHeader (kind seq ackSeq : Byte) (memReturned mgmtReturned : Nat) (ackValid : Bool) (length : Nat) : List Byte :=
  [kind, seq, ackSeq, BitVec.ofNat 8 memReturned, BitVec.ofNat 8 mgmtReturned, if ackValid then 1#8 else 0#8] ++
    leBytes 2 length

/-- A frame on the wire: header, body, CRC least significant byte first (R134). -/
def frameBytes (kind seq ackSeq : Byte) (memReturned mgmtReturned : Nat) (ackValid : Bool) (body : List Byte) : List Byte :=
  let covered := frameHeader kind seq ackSeq memReturned mgmtReturned ackValid body.length ++ body
  covered ++ leBytes 4 (crc32 covered).toNat

/-- The command that a received frame is (R134): one of the five kinds a processor sends if the frame is good, otherwise a
bad frame. Good: the CRC checks, the length field is no more than 300 and agrees with the bytes received, the kind is one
the processor sends, and the length is one its kind takes. The credit fields are disregarded. -/
def decodeFrame (p : Port) (bytes : List Byte) : Instr :=
  let covered := bytes.take (bytes.length - 4)
  let body := covered.drop 8
  let length := leNat ((covered.drop 6).take 2)
  let kind := covered.getD 0 0
  let seq := covered.getD 1 0
  let ackSeq := covered.getD 2 0
  let ackValid := (covered.getD 5 0).getLsbD 0
  if bytes.length < 12 ∨ leNat (bytes.drop (bytes.length - 4)) ≠ (crc32 covered).toNat ∨
      300 < length ∨ length ≠ body.length then .badFrame p
  else if kind = 1#8 then .msg p seq ackSeq ackValid body
  else if kind = 2#8 ∧ length = 0 then .ack p seq ackSeq ackValid
  else if kind = 3#8 ∧ length = 0 then .replayReq p seq
  else if kind = 4#8 ∧ length = 1 then .train p (body.getD 0 0)
  else if kind = 6#8 ∧ length = 1 then .linkDownFrame p (body.getD 0 0)
  else .badFrame p

/-- The frame a processor sends for a command that is a good frame (Table 8-2); none for the other commands. A processor's
credit fields are 0. -/
def encodeFrame : Instr → Option (List Byte)
  | .msg _ seq ackSeq ackValid body => some (frameBytes 1 seq ackSeq 0 0 ackValid body)
  | .ack _ seq ackSeq ackValid => some (frameBytes 2 seq ackSeq 0 0 ackValid [])
  | .replayReq _ number => some (frameBytes 3 number 0 0 0 false [])
  | .train _ revision => some (frameBytes 4 0 0 0 0 false [revision])
  | .linkDownFrame _ reason => some (frameBytes 6 0 0 0 0 false [reason])
  | _ => none

end Sys2Proof
end

