-- ==== Sys2Proof/Machine/State.lean ====
section
/-! DEFINITION. The state of the part, block by block (Table 0-2), as plain data, and its values at power-on. -/

namespace Sys2Proof.Machine

/-- A moment, or a span, in units of 1/512 ns: every duration of the manual is a whole number of them (log 2). -/
abbrev Time := Nat

/-! ### Array and Bank Scheduler -/

/-- The five states of a bank (section 1.3). -/
inductive BankState where
  | closed
  | opening
  | opened
  | closing
  | refreshing
  deriving DecidableEq, Repr

/-- The direction of a column access (R10). -/
inductive Direction where
  | read
  | write
  deriving DecidableEq, Repr

/-- What the Array, the Bank Scheduler and the Maintenance Controller keep for one bank. -/
structure Bank where
  /-- State (R4). -/
  state : BankState
  /-- Open row: present in OPENING, OPEN and CLOSING (R4). -/
  openRow : Option Nat
  /-- Minimum-open complete (R4). -/
  minOpenDone : Bool
  /-- End of the most recent read transfer to the open row (R4). -/
  lastReadEnd : Option Time
  /-- End of the most recent write transfer to the open row (R4). -/
  lastWriteEnd : Option Time
  /-- Refresh position: the first row the next refresh covers (R4). -/
  refreshPos : Nat
  /-- When the open delay in progress completes (R5). -/
  openDelayDue : Option Time
  /-- When the minimum open time in progress completes (R5). -/
  minOpenDue : Option Time
  /-- When the close in progress completes (R7). -/
  closeDue : Option Time
  /-- When the refresh in progress completes (R8). -/
  refreshDue : Option Time
  /-- Corrected count, 0 to 65,535 (R17). -/
  corrected : Nat
  /-- Hit streak, 0 to 64 (R56). -/
  hitStreak : Nat
  /-- Idle-close timer (R57). -/
  idleDue : Option Time
  /-- The idle decision holds: the timer has expired and the close has not begun (R54, R57). -/
  idleDecision : Bool
  /-- Refresh debt, 0 to 7 (R88). -/
  debt : Nat
  /-- Refresh interval timer: the next expiry, or stopped (R86). -/
  intervalDue : Option Time
  deriving DecidableEq, Repr

/-- The one column access in flight (R11, R12). -/
structure Flight where
  /-- The slot of the entry it was granted for; absent once a reset has discarded that entry (R19). -/
  slot : Option Nat
  bank : Fin 16
  dir : Direction
  /-- The range a read reaches. -/
  first : Nat
  count : Nat
  /-- The blocks a write carries, each with its 32 bytes. -/
  writes : List (Nat × List Byte)
  /-- When the transfer ends. -/
  due : Time
  deriving DecidableEq, Repr

/-- The column-path record (R10); the path is busy while an access is in flight. -/
structure ColumnPath where
  flight : Option Flight
  /-- Direction of the most recent transfer; absent for NONE. -/
  dir : Option Direction
  lastEnd : Option Time
  deriving DecidableEq, Repr

/-! ### Transaction Table -/

/-- How the ECC check classifies a block that is read (R15); also the overall status of an entry (R69, R79, R83). -/
inductive ReadClass where
  | ok
  | corrected
  | poisoned
  deriving DecidableEq, Repr

/-- Who an entry belongs to, with the fields only port entries have (Table 2-1). -/
inductive Owner where
  | port (p : Port) (tag : Byte) (session : Nat) (orphan : Bool)
  | maintenance
  deriving DecidableEq, Repr

/-- The kind of an entry, with the fields only that kind has (Table 2-1). -/
inductive EntryKind where
  | read
  | write
  | maskedWrite (masks : List (BitVec 32))
  | atomic (op : AtomicOp) (offset : Nat) (operand1 operand2 : BitVec 64)
  | barrier
  | scrub
  | fill
  deriving DecidableEq, Repr

/-- The states of an entry other than FREE (Table 2-2): a FREE slot is an unlisted one. -/
inductive EntryState where
  | held
  | queued
  | inAccess
  | inUpdate
  | done
  deriving DecidableEq, Repr

/-- The set of hold reasons of an entry (R22, R31). -/
structure Holds where
  hazard : Bool
  barrier : Bool
  fill : Bool
  deriving DecidableEq, Repr

/-- The record of one slot that is not FREE (R22). -/
structure Entry where
  owner : Owner
  kind : EntryKind
  /-- First block; 0 in a BARRIER, which has no range. -/
  first : Nat
  /-- Count of blocks; 0 in a BARRIER, which has no range. -/
  count : Nat
  /-- Data, 32 bytes a block. -/
  data : List (List Byte)
  age : Nat
  state : EntryState
  holds : Holds
  /-- The write-back set, as positions within the range; empty but in IN-UPDATE. -/
  writeBack : List Nat
  /-- Per-block classification, from the end of the first access. -/
  classes : List ReadClass
  /-- Overall status, from the end of the first access. -/
  status : Option ReadClass
  /-- The old value of an ATOMIC whose block was not POISONED. -/
  oldValue : Option (BitVec 64)
  deriving DecidableEq, Repr

/-! ### Port Links -/

/-- The link states (R133). -/
inductive LinkState where
  | down
  | pending
  | active
  | sleep
  deriving DecidableEq, Repr

/-- A message: the header fields of Table 9-1 and the payload. -/
structure Message where
  kind : Byte
  tag : Byte
  option : Byte
  status : Byte
  block : BitVec 32
  extra : BitVec 32
  payload : List Byte
  deriving DecidableEq, Repr

/-- A frame the part sends: the header fields of Table 8-2 and the body. -/
structure Frame where
  kind : Byte
  seq : Byte
  ackSeq : Byte
  memReturned : Nat
  mgmtReturned : Nat
  ackValid : Bool
  body : List Byte
  deriving DecidableEq, Repr

/-- A frame of the replay buffer: its number, its message and the credit returns it carried (R133). -/
structure BufferedFrame where
  number : Byte
  message : Message
  memReturned : Nat
  mgmtReturned : Nat
  deriving DecidableEq, Repr

/-- What an UNCORRECTABLE notice says of the record (R121). -/
inductive ReportKind where
  | new
  | repeated
  | notRecorded
  deriving DecidableEq, Repr

/-- The source of a poisoned-block report (R118). -/
inductive Source where
  | portARead
  | portBRead
  | maskedWrite
  | atomic
  | scrub
  deriving DecidableEq, Repr

/-- A notice with its details (R148, Table 9-8). -/
inductive Notice where
  | uncorrectable (block : Nat) (source : Source) (kind : ReportKind) (number records overflow : Nat)
  | refreshMissed (bank : Fin 16) (missed : Nat)
  | thermal (reading : Int) (entered : Bool)
  | fillDone (first count : Nat)
  | retainVote (present : Bool)
  | retainEntering
  deriving DecidableEq, Repr

/-- A full notice slot: the details it holds and the also-since count, 0 to 255 (R148). -/
structure NoticeSlot where
  notice : Notice
  alsoSince : Nat
  deriving DecidableEq, Repr

/-- The link record (Table 8-1). -/
structure Link where
  state : LinkState
  pendingRevision : Option Byte
  expected : Byte
  /-- Receive condition: set for AWAITING-REPLAY, clear for NORMAL. -/
  awaitingReplay : Bool
  replayRequestDue : Option Time
  /-- Accepted-unacknowledged, 0 to 16. -/
  unacked : Nat
  ackValid : Bool
  ackDue : Option Time
  next : Byte
  /-- Sent count, 0 to 128. -/
  sentCount : Nat
  /-- Replay buffer, oldest first. -/
  buffer : List BufferedFrame
  resend : Option Byte
  replayDue : Option Time
  /-- Retry count, 0 to 4. -/
  retry : Nat
  memOut : Nat
  memPend : Nat
  mgmtOut : Nat
  mgmtPend : Nat
  /-- Outgoing control queue, in placement order. -/
  control : List Message
  /-- The six notice slots, by the code of the notice kind (Table 9-8). -/
  notices : Vector (Option NoticeSlot) 6
  deriving DecidableEq, Repr

/-- Everything the part keeps for one port. -/
structure PortRec where
  link : Link
  /-- Link session number (R41). -/
  session : Nat
  /-- Reply list: the slots of the port's DONE entries that are not orphans, in the order they became DONE (R38). -/
  replies : List Nat
  /-- The port's retention vote (R174). -/
  vote : Bool
  /-- The frames put on the wire, oldest first: the model's record of the transmitter's output (log 15). -/
  tx : List Frame
  deriving DecidableEq, Repr

/-! ### Maintenance Controller -/

/-- The kinds of calibration (R97). -/
inductive CalKind where
  | short
  | long
  deriving DecidableEq, Repr

/-- The calibration state (R96). -/
inductive CalState where
  | idle
  | pending (kind : CalKind)
  | running (kind : CalKind)
  deriving DecidableEq, Repr

/-- The Maintenance Controller's state that is not per bank (chapter 5). -/
structure Maintenance where
  /-- Missed-refresh count, 0 to 65,535 (R89). -/
  missed : Nat
  lastTemp : Int
  hot : Bool
  /-- A start-up reading has been asked for and has not arrived (R95). -/
  readingAsked : Bool
  cal : CalState
  followOn : Option CalKind
  calTemp : Int
  lastCompletion : BitVec 32
  calTimerDue : Option Time
  deriving DecidableEq, Repr

/-! ### Integrity Unit -/

/-- The scrub record (R105). -/
structure Scrub where
  cursor : Nat
  passes : Nat
  stepDue : Option Time
  pendingStep : Bool
  deriving DecidableEq, Repr

/-- The fill record (Table 6-4). -/
structure Fill where
  port : Port
  first : Nat
  count : Nat
  /-- The pattern, lane 0 in the low byte. -/
  pattern : BitVec 64
  age : Nat
  cursor : Nat
  inFlight : Nat
  /-- State: set for ABORTING, clear for RUNNING. -/
  aborting : Bool
  /-- The port and tag of the FILL-ABORT that awaits its reply. -/
  abortReply : Option (Port × Byte)
  deriving DecidableEq, Repr

/-- An error record (R118). -/
structure ErrorRecord where
  number : Nat
  block : Nat
  source : Source
  firstSeen : BitVec 32
  hits : Nat
  rewritten : Bool
  deriving DecidableEq, Repr

/-- The Error Record Table with the next record number and the overflow count (R118). -/
structure ErrorTable where
  records : List ErrorRecord
  nextNumber : Nat
  overflow : Nat
  deriving DecidableEq, Repr

/-! ### Region Table, Management Unit, Power Controller -/

/-- Rights of a port over a granule (R127). -/
inductive Rights where
  | none
  | read
  | readWrite
  deriving DecidableEq, Repr

/-- An enabled region slot (Table 7-1). -/
structure Region where
  first : Nat
  count : Nat
  rightsA : Rights
  rightsB : Rights
  deriving DecidableEq, Repr

/-- A management request held by the Management Unit (R164). -/
structure HeldRequest where
  port : Port
  tag : Byte
  request : MgmtRequest
  deriving DecidableEq, Repr

/-- The Management Unit is free, stopped by a RESTART that awaits its acknowledgement (R172), or about to restart since
the acknowledgement has come (R152, R173; log 10). -/
inductive UnitState where
  | free
  | stopped (port : Port)
  | restartDue
  deriving DecidableEq, Repr

/-- The management queue, in the order of joining, and the unit (R164). -/
structure Management where
  queue : List HeldRequest
  unit : UnitState
  deriving DecidableEq, Repr

/-- The configuration store (Table 10-1). -/
structure Store where
  idleClose : Nat
  hitLimit : Nat
  napIdle : Nat
  scrubPeriod : Nat
  correctOnRead : Bool
  noticeMaskA : BitVec 32
  noticeMaskB : BitVec 32
  defaultRightsA : Rights
  defaultRightsB : Rights
  deriving DecidableEq, Repr

/-- The power states (R174). -/
inductive PowerState where
  | held
  | starting
  | active
  | nap
  | entering
  | retain
  | waking
  deriving DecidableEq, Repr

/-- The power record (Table 11-1); the vote set is one flag in each port's record. -/
structure Power where
  state : PowerState
  idleDue : Option Time
  napDue : Bool
  exitDue : Option Time
  napCount : Nat
  timeBase : BitVec 32
  /-- When the time base next rises; absent while it is held (R177). -/
  tickDue : Option Time
  deriving DecidableEq, Repr

/-! ### The whole part -/

/-- The state of the part. -/
structure State where
  /-- The present (log 2). -/
  now : Time
  /-- How many power-ons there have been: the counter the free values of R18 are applied to (log 4). -/
  powerOns : Nat
  /-- The level of RST_N (0.3). -/
  rstHigh : Bool
  /-- The power-on reset is in progress (R175). -/
  powerOnReset : Bool
  /-- The run-down after a reset is in progress (R19). -/
  runDown : Bool
  /-- The commands waiting, first in first out. -/
  pending : List Instr
  /-- The bytes written since power-on, by byte address 32 x block + lane (R13). -/
  contents : List Host.Cell
  /-- The integrity conditions set since power-on, by block (R13). -/
  conditions : List (Nat × Condition)
  banks : Vector Bank 16
  /-- When the calibration run in progress completes: the Array is CALIBRATING while this is present (R9). -/
  calRunDue : Option Time
  path : ColumnPath
  /-- Window record: start times of openings, oldest first (R48). -/
  window : List Time
  /-- Spacing record: start time of the most recent opening (R48). -/
  spacing : Option Time
  /-- The slots that are not FREE, by slot number (R20). -/
  table : List (Nat × Entry)
  ageCounter : Nat
  portA : PortRec
  portB : PortRec
  maint : Maintenance
  scrub : Scrub
  fill : Option Fill
  errors : ErrorTable
  /-- Owner-port identity (R125). -/
  owner : Port
  /-- The region slots: a disabled one is absent (R127). -/
  regions : Vector (Option Region) 8
  mgmt : Management
  store : Store
  power : Power
  deriving DecidableEq, Repr

/-- Why the part stops. -/
inductive Fault where
  /-- Raised by MSG, when the memory request it carries passes every check and its port's partition has no FREE slot.
  Safe: the credit account (R20, R144) rules it out, and the manual gives it no effect (log 16). -/
  | noFreeSlot
  deriving DecidableEq, Repr

/-- Why a command has no outcome. -/
inductive Refusal where
  /-- Raised by `exec` for a command that has no meaning yet; none is left. Safe: the model stops. -/
  | notModelled (mnemonic : String)
  deriving DecidableEq, Repr

/-! ### Values at power-on -/

/-- A bank at power-on (R4, R17, R56, R57, R86, R88). Minimum-open complete, for which R4 gives no value at power-on, is
DESIGN CHOICE clear (log 28). -/
def Bank.powerOn : Bank where
  state := .closed
  openRow := none
  minOpenDone := false
  lastReadEnd := none
  lastWriteEnd := none
  refreshPos := 0
  openDelayDue := none
  minOpenDue := none
  closeDue := none
  refreshDue := none
  corrected := 0
  hitStreak := 0
  idleDue := none
  idleDecision := false
  debt := 0
  intervalDue := none

/-- The column-path record's reset values (R10). -/
def ColumnPath.cleared : ColumnPath where
  flight := none
  dir := none
  lastEnd := none

/-- The cleared link record (R133). -/
def Link.cleared : Link where
  state := .down
  pendingRevision := none
  expected := 0
  awaitingReplay := false
  replayRequestDue := none
  unacked := 0
  ackValid := false
  ackDue := none
  next := 0
  sentCount := 0
  buffer := []
  resend := none
  replayDue := none
  retry := 0
  memOut := 0
  memPend := 0
  mgmtOut := 0
  mgmtPend := 0
  control := []
  notices := Vector.replicate 6 none

/-- A port at power-on (R41, R45, R133, R180). -/
def PortRec.powerOn : PortRec where
  link := Link.cleared
  session := 0
  replies := []
  vote := false
  tx := []

/-- The configuration store's defaults (Table 10-1). -/
def Store.defaults : Store where
  idleClose := 40
  hitLimit := 16
  napIdle := 20
  scrubPeriod := 24
  correctOnRead := true
  noticeMaskA := 0x3F
  noticeMaskB := 0x3F
  defaultRightsA := .readWrite
  defaultRightsB := .readWrite

/-- The Maintenance Controller at power-on (R89, R93, R94, R96). -/
def Maintenance.powerOn : Maintenance where
  missed := 0
  lastTemp := 85
  hot := true
  readingAsked := false
  cal := .idle
  followOn := none
  calTemp := 85
  lastCompletion := 0
  calTimerDue := none

/-- The scrub record after each reset (R105). -/
def Scrub.cleared : Scrub where
  cursor := 0
  passes := 0
  stepDue := none
  pendingStep := false

/-- The power record at power-on (R174). -/
def Power.powerOn : Power where
  state := .held
  idleDue := none
  napDue := false
  exitDue := none
  napCount := 0
  timeBase := 0
  tickDue := none

/-- The part as supply has just been applied with RST_N high: in HELD for the span of the power-on reset (R175). The owner
port before the first sampling of OWNER_SEL is DESIGN CHOICE Port A (log 5), the level of RST_N DESIGN CHOICE high
(log 6). -/
def State.reset : State where
  now := 0
  powerOns := 0
  rstHigh := true
  powerOnReset := true
  runDown := false
  pending := []
  contents := []
  conditions := []
  banks := Vector.replicate 16 Bank.powerOn
  calRunDue := none
  path := ColumnPath.cleared
  window := []
  spacing := none
  table := []
  ageCounter := 0
  portA := PortRec.powerOn
  portB := PortRec.powerOn
  maint := Maintenance.powerOn
  scrub := Scrub.cleared
  fill := none
  errors := ⟨[], 0, 0⟩
  owner := .a
  regions := Vector.replicate 8 none
  mgmt := ⟨[], .free⟩
  store := Store.defaults
  power := Power.powerOn

end Sys2Proof.Machine
end

