-- ==== Sys2Proof/Machine/Operands.lean ====
section
/-! DEFINITION. Operand forms: block numbers and their places (R1, R2), rights and key codes, and what a message from a
processor asks for (R153 to R157). -/

namespace Sys2Proof.Machine

/-! ### Geometry (R1, R2) -/

/-- Capacity of the part in blocks. -/
def capacity : Nat := 33554432
/-- Column of a block (R1). -/
def columnOf (b : Nat) : Nat := b % 64
/-- Bank of a block (R1). -/
def bankOf (b : Nat) : Fin 16 := ⟨(b / 64) % 16, Nat.mod_lt _ (by decide)⟩
/-- Row of a block (R1). -/
def rowOf (b : Nat) : Nat := b / 1024
/-- Group of a block (R1). -/
def groupOf (b : Nat) : Nat := b / 8
/-- Granule of a block (R1). -/
def granuleOf (b : Nat) : Nat := b / 2048

/-- The block at a row, bank and column (R1). -/
def blockAt (row bank column : Nat) : Nat := row * 1024 + bank * 64 + column

/-- A range is row-contained (R2). -/
def rowContained (first count : Nat) : Bool := decide (first % 64 + count ≤ 64)

/-- Whether two ranges share a block (0.5). -/
def rangesOverlap (f1 c1 f2 c2 : Nat) : Bool := decide (max f1 f2 < min (f1 + c1) (f2 + c2))

/-! ### Ports, rights, codes -/

/-- The other port. -/
def otherPort : Port → Port
  | .a => .b
  | .b => .a

/-- 0 for Port A, 1 for Port B (R136, Table 10-3). -/
def portCode : Port → Nat
  | .a => 0
  | .b => 1

/-- The port OWNER_SEL selects: low Port A, high Port B (R125). -/
def ownerSelected (high : Bool) : Port := if high then .b else .a

/-- A port's first slot (R20). -/
def partitionStart : Port → Nat
  | .a => 0
  | .b => 48

/-- Rights by their code; none for a code above 2 (R157). -/
def rightsOf : Nat → Option Rights
  | 0 => some .none
  | 1 => some .read
  | 2 => some .readWrite
  | _ => none

/-- The code of rights (R157). -/
def rightsCode : Rights → Nat
  | .none => 0
  | .read => 1
  | .readWrite => 2

/-- The operations of ATOMIC by code (R155). -/
def atomicOpOf : Nat → Option AtomicOp
  | 1 => some .fetchAdd
  | 2 => some .swap
  | 3 => some .compareSwap
  | 4 => some .fetchAnd
  | 5 => some .fetchOr
  | _ => none

/-- The code of an operation of ATOMIC (R155). -/
def atomicOpCode : AtomicOp → Nat
  | .fetchAdd => 1
  | .swap => 2
  | .compareSwap => 3
  | .fetchAnd => 4
  | .fetchOr => 5

/-- The code of a status (R159). -/
def statusCode : ReadClass → Nat
  | .ok => 0
  | .corrected => 1
  | .poisoned => 2

/-- The code of the source of a report (R159). -/
def sourceCode : Source → Nat
  | .portARead => 1
  | .portBRead => 2
  | .maskedWrite => 3
  | .atomic => 4
  | .scrub => 5

/-- The code of a power state (Table 10-3). -/
def powerCode : PowerState → Nat
  | .held => 0
  | .starting => 1
  | .active => 2
  | .nap => 3
  | .entering => 4
  | .retain => 5
  | .waking => 6

/-- The code of a link state (Table 10-3). -/
def linkCode : LinkState → Nat
  | .down => 0
  | .pending => 1
  | .active => 2
  | .sleep => 3

/-- The code of a calibration state (Table 10-3). -/
def calCode : CalState → Nat
  | .idle => 0
  | .pending .short => 1
  | .pending .long => 2
  | .running .short => 3
  | .running .long => 4

/-- The code of a follow-on (Table 10-3). -/
def followOnCode : Option CalKind → Nat
  | none => 0
  | some .short => 1
  | some .long => 2

/-- Kind codes of management requests (Table 9-2). -/
def mgmtKindCode : MgmtRequest → Nat
  | .configGet _ => 16
  | .configSet _ _ => 17
  | .status _ => 18
  | .regionGet _ => 19
  | .regionSet .. => 20
  | .errorFetch => 21
  | .errorClear _ => 22
  | .fillStart .. => 23
  | .fillAbort => 24
  | .retainVote => 25
  | .retainWithdraw => 26
  | .calibrate => 27
  | .restart => 28

/-- Why a request is refused, or how a management request fails, by the codes of Table 9-6. -/
inductive Reason where
  | badFormat
  | tagInUse
  | badAddress
  | accessDenied
  | power
  | busy
  | notOwner
  | badValue
  | notFound
  | empty
  deriving DecidableEq, Repr

/-- The code of a reason or failing status (Table 9-6). -/
def reasonCode : Reason → Nat
  | .badFormat => 3
  | .tagInUse => 4
  | .badAddress => 5
  | .accessDenied => 6
  | .power => 7
  | .busy => 8
  | .notOwner => 9
  | .badValue => 10
  | .notFound => 11
  | .empty => 12

/-- The link-down reasons of Table 8-6. -/
inductive DownReason where
  | hostRetrain
  | badAck
  | retryLimit
  | creditViolation
  | queueOverrun
  | hostClose
  deriving DecidableEq, Repr

/-- The code of a link-down reason (Table 8-6). -/
def downCode : DownReason → Nat
  | .hostRetrain => 1
  | .badAck => 2
  | .retryLimit => 3
  | .creditViolation => 4
  | .queueOverrun => 5
  | .hostClose => 6

/-- Whether a LINK-DOWN frame is sent for a reason (Table 8-6). -/
def downFrameSent : DownReason → Bool
  | .hostRetrain | .hostClose => false
  | .badAck | .retryLimit | .creditViolation | .queueOverrun => true

/-! ### What a message asks for (R153 to R157) -/

/-- The class of a request kind, which decides its credit and its route (R154). -/
inductive RequestClass where
  | memory
  | management
  deriving DecidableEq, Repr

/-- The class of a kind code a processor sends (Table 9-2). -/
def classOfKind (kind : Nat) : Option RequestClass :=
  if 1 ≤ kind ∧ kind ≤ 5 then some .memory
  else if 16 ≤ kind ∧ kind ≤ 28 then some .management
  else none

/-- What a message from a processor is: of unknown kind, of known kind but wrong form, or a request (R161). -/
inductive Parsed where
  | unknownKind
  | malformed (cls : RequestClass)
  | memory (r : MemRequest)
  | management (r : MgmtRequest)
  deriving DecidableEq, Repr

/-- The fields of a body that its refusal repeats (R159). -/
structure BodyHead where
  kind : Byte
  tag : Byte
  block : BitVec 32
  deriving DecidableEq, Repr

/-- Kind code 0 for an empty body, tag 0 below 2 bytes, block number 0 where the body does not hold the field (R159). -/
def bodyHead (body : List Byte) : BodyHead where
  kind := body.getD 0 0
  tag := body.getD 1 0
  block := if 8 ≤ body.length then BitVec.ofNat 32 (leNat ((body.drop 4).take 4)) else 0

/-- The bytes of a field of a body. -/
def field (body : List Byte) (at_ size : Nat) : Nat := leNat ((body.drop at_).take size)

/-- `n` pieces of `size` bytes each. -/
def pieces (size n : Nat) (bytes : List Byte) : List (List Byte) :=
  (List.range n).map fun i => (bytes.drop (size * i)).take size

/-- The masks of a MASKED-WRITE: lane L is enabled by bit L (R156). -/
def masksOf (n : Nat) (payload : List Byte) : List (BitVec 32) :=
  (pieces 4 n payload).map fun m => BitVec.ofNat 32 (leNat m)

/-- The memory request of a body of a memory kind, if its form is right (R155, R156, R161). -/
def parseMemory (body : List Byte) : Option MemRequest :=
  let kind := field body 0 1
  let n := field body 2 1
  let first := field body 4 4
  let payload := body.drop 12
  if kind = 1 then
    if 1 ≤ n ∧ n ≤ 8 ∧ body.length = 12 then some (.read first n) else none
  else if kind = 2 then
    if 1 ≤ n ∧ n ≤ 8 ∧ body.length = 12 + 32 * n then some (.write first (pieces 32 n payload)) else none
  else if kind = 3 then
    if 1 ≤ n ∧ n ≤ 8 ∧ body.length = 12 + 36 * n ∧ (masksOf n payload).any (· ≠ 0#32) then
      some (.maskedWrite first (masksOf n payload) (pieces 32 n (payload.drop (4 * n))))
    else none
  else if kind = 4 then
    match atomicOpOf (field body 8 1) with
    | none => none
    | some op =>
      let offset := field body 9 1
      if n = 1 ∧ (offset = 0 ∨ offset = 8 ∨ offset = 16 ∨ offset = 24) ∧
          body.length = (if op = .compareSwap then 28 else 20) then
        some (.atomic first op offset (BitVec.ofNat 64 (field body 12 8)) (BitVec.ofNat 64 (field body 20 8)))
      else none
  else if kind = 5 then
    if body.length = 12 then some .barrier else none
  else none

/-- The length a management request's form gives (Table 9-4). -/
def mgmtLength (kind : Nat) : Nat :=
  if kind = 17 ∨ kind = 20 then 16 else if kind = 23 then 20 else 12

/-- The management request of a body of a management kind, if its length is right (R157). -/
def parseManagement (body : List Byte) : Option MgmtRequest :=
  let kind := field body 0 1
  let option := body.getD 2 0
  let block := BitVec.ofNat 32 (field body 4 4)
  let extra := BitVec.ofNat 32 (field body 8 4)
  if body.length ≠ mgmtLength kind then none
  else if kind = 16 then some (.configGet extra)
  else if kind = 17 then some (.configSet extra (BitVec.ofNat 32 (field body 12 4)))
  else if kind = 18 then some (.status (option.getLsbD 0))
  else if kind = 19 then some (.regionGet option)
  else if kind = 20 then
    some (.regionSet option block extra (body.getD 12 0) (body.getD 13 0) (body.getD 14 0))
  else if kind = 21 then some .errorFetch
  else if kind = 22 then some (.errorClear block)
  else if kind = 23 then some (.fillStart block extra (BitVec.ofNat 64 (field body 12 8)))
  else if kind = 24 then some .fillAbort
  else if kind = 25 then some .retainVote
  else if kind = 26 then some .retainWithdraw
  else if kind = 27 then some .calibrate
  else if kind = 28 then some .restart
  else none

/-- What a message body is, by its kind byte and its form (R154, R161). -/
def parseBody (body : List Byte) : Parsed :=
  match (if body.isEmpty then none else classOfKind (field body 0 1)) with
  | none => .unknownKind
  | some .memory =>
    match parseMemory body with
    | none => .malformed .memory
    | some r => .memory r
  | some .management =>
    match parseManagement body with
    | none => .malformed .management
    | some r => .management r

/-- The class of credit a message takes (R144): none for a message of unknown kind. -/
def Parsed.creditClass : Parsed → Option RequestClass
  | .unknownKind => none
  | .malformed cls => some cls
  | .memory _ => some .memory
  | .management _ => some .management

/-- The range of a memory request, first block and count; a BARRIER has none (R22). -/
def memRange : MemRequest → Option (Nat × Nat)
  | .read first count => some (first, count)
  | .write first data => some (first, data.length)
  | .maskedWrite first _ data => some (first, data.length)
  | .atomic block _ _ _ _ => some (block, 1)
  | .barrier => none

/-- The entry kind of a memory request. -/
def memEntryKind : MemRequest → EntryKind
  | .read _ _ => .read
  | .write _ _ => .write
  | .maskedWrite _ masks _ => .maskedWrite masks
  | .atomic _ op offset o1 o2 => .atomic op offset o1 o2
  | .barrier => .barrier

/-- The data a memory request carries at admission (R22). -/
def memData : MemRequest → List (List Byte)
  | .write _ data => data
  | .maskedWrite _ _ data => data
  | .read _ _ | .atomic .. | .barrier => []

end Sys2Proof.Machine
end

