-- ==== Sys2Proof/Machine/Sparse.lean ====
section
/-! DEFINITION. Sparse data by key: a list of key and value pairs, keys strictly rising, so that equal contents are equal
lists. Used for the array's contents and conditions and for the Transaction Table's slots. -/

namespace Sys2Proof.Machine

/-- The canonical form: keys strictly rising. -/
abbrev Sparse.Wf {α : Type} (l : List (Nat × α)) : Prop := l.Pairwise fun x y => x.1 < y.1

/-- The value listed for a key. -/
def Sparse.find? {α : Type} (l : List (Nat × α)) (k : Nat) : Option α :=
  match l with
  | [] => none
  | (k', v) :: t => if k = k' then some v else Sparse.find? t k

/-- List a value for a key, in place of the one it has. -/
def Sparse.insert {α : Type} (l : List (Nat × α)) (k : Nat) (v : α) : List (Nat × α) :=
  match l with
  | [] => [(k, v)]
  | (k', v') :: t =>
    if k < k' then (k, v) :: (k', v') :: t
    else if k = k' then (k, v) :: t
    else (k', v') :: Sparse.insert t k v

/-- Unlist a key. -/
def Sparse.erase {α : Type} (l : List (Nat × α)) (k : Nat) : List (Nat × α) := l.filter fun x => x.1 ≠ k

/-- Change every value, keeping the keys. -/
def Sparse.map {α : Type} (f : Nat → α → α) (l : List (Nat × α)) : List (Nat × α) := l.map fun x => (x.1, f x.1 x.2)

end Sys2Proof.Machine
end

