-- ==== Sys2Proof/Machine/Timing.lean ====
section
/-! DEFINITION. The durations of the manual in units of 1/512 ns (0.6; log 2). -/

namespace Sys2Proof.Machine

/-- `n` nanoseconds. -/
def ns (n : Nat) : Time := 512 * n

/-- `n` microseconds. -/
def us (n : Nat) : Time := 512000 * n

/-- `n` milliseconds. -/
def ms (n : Nat) : Time := 512000000 * n

/-- Open delay (Table 1-3). -/
def openDelay : Time := ns 16
/-- Minimum open time (Table 1-3). -/
def minimumOpen : Time := ns 38
/-- Close time (Table 1-3). -/
def closeTime : Time := ns 16
/-- Read-to-close (Table 1-3). -/
def readToClose : Time := ns 6
/-- Write recovery (Table 1-3). -/
def writeRecovery : Time := ns 15
/-- Bank refresh (Table 1-3). -/
def bankRefresh : Time := ns 120

/-- A read of `n` blocks: read latency and 2 ns a block (R11). -/
def readTransfer (n : Nat) : Time := ns (12 + 2 * n)

/-- A write of `n` blocks: 2 ns a block (R12). -/
def writeTransfer (n : Nat) : Time := ns (2 * n)

/-- The turnaround after a transfer of direction `d` before an access of the other direction: 6 ns after a write, 2 ns after a
read (R10). -/
def turnaround : Direction → Time
  | .write => ns 6
  | .read => ns 2

/-- A calibration run (Table 1-3). -/
def calibrationRun : CalKind → Time
  | .short => ns 100
  | .long => ns 600

/-- The opening window (R48). -/
def openingWindow : Time := ns 36
/-- The opening spacing (R49). -/
def openingSpacing : Time := ns 5
/-- The NAP exit delay (R179). -/
def napExitDelay : Time := ns 20

/-- The refresh interval by the HOT flag: 1,953.125 ns or 3,906.25 ns (R87, Table 5-1). -/
def refreshInterval (hot : Bool) : Time := if hot then 1000000 else 2000000

/-- Where bank `k`'s timer is set when the timers are started: (k + 1)/16 of an interval (R86). -/
def stagger (hot : Bool) (k : Nat) : Time := (k + 1) * (refreshInterval hot / 16)

/-- The calibration timer (R98). -/
def calibrationPeriod : Time := ms 100

/-- The step interval: the scrub period divided by 4,194,304 (R106). -/
def stepInterval (hours : Nat) : Time := hours * (ms 3600000 / 4194304)

/-- The acknowledgement timer (R139). -/
def ackDelay : Time := us 1
/-- The replay timer and the replay-request timer (R138, R143). -/
def replayDelay : Time := us 20

/-- The moment of an event that was due at `due`: the later of the present and its due time (log 2). -/
def State.at (s : State) (due : Time) : State := { s with now := max s.now due }

end Sys2Proof.Machine
end

