-- ==== Sys2Proof/Machine/Access.lean ====
section
/-! DEFINITION. Reading and changing one piece of the state: ports, links, banks, slots, and the contents and conditions of
blocks. -/

namespace Sys2Proof.Machine

/-! ### Ports and links -/

/-- What the part keeps for a port. -/
def State.port (s : State) : Port → PortRec
  | .a => s.portA
  | .b => s.portB

/-- Replace what the part keeps for a port. -/
def State.setPort (s : State) (p : Port) (r : PortRec) : State :=
  match p with
  | .a => { s with portA := r }
  | .b => { s with portB := r }

/-- A port's link record. -/
def State.link (s : State) (p : Port) : Link := (s.port p).link

/-- Replace a port's link record. -/
def State.setLink (s : State) (p : Port) (l : Link) : State := s.setPort p { s.port p with link := l }

/-- A port's link is ACTIVE. -/
def State.linkActive (s : State) (p : Port) : Bool := decide ((s.link p).state = .active)

/-! ### Banks -/

/-- The 16 banks, bank 0 first. -/
def allBanks : List (Fin 16) := List.finRange 16

/-- What the part keeps for a bank. -/
def State.bank (s : State) (b : Fin 16) : Bank := s.banks[b]

/-- Replace what the part keeps for a bank. -/
def State.setBank (s : State) (b : Fin 16) (r : Bank) : State := { s with banks := s.banks.set b r }

/-- Change every bank. -/
def State.mapBanks (s : State) (f : Fin 16 → Bank → Bank) : State :=
  { s with banks := Vector.ofFn fun b => f b s.banks[b] }

/-- The bank has a column access in progress: granted, its transfer not yet ended (R4; log 13). -/
def State.accessInProgress (s : State) (b : Fin 16) : Bool :=
  match s.path.flight with
  | none => false
  | some f => decide (f.bank = b)

/-! ### Slots of the Transaction Table -/

/-- The entry in a slot; absent for a FREE slot. -/
def State.entry (s : State) (slot : Nat) : Option Entry := Sparse.find? s.table slot

/-- Put an entry in a slot. -/
def State.setEntry (s : State) (slot : Nat) (e : Entry) : State := { s with table := Sparse.insert s.table slot e }

/-- Make a slot FREE. -/
def State.clearSlot (s : State) (slot : Nat) : State := { s with table := Sparse.erase s.table slot }

/-- The port a port entry belongs to. -/
def Owner.port? : Owner → Option Port
  | .port p _ _ _ => some p
  | .maintenance => none

/-- The entry is an orphan (R42). -/
def Owner.isOrphan : Owner → Bool
  | .port _ _ _ orphan => orphan
  | .maintenance => false

/-- The slots that are not FREE in a partition of `size` slots from `start` (R20). -/
def State.occupied (s : State) (start size : Nat) : Nat :=
  (s.table.filter fun x => decide (start ≤ x.1 ∧ x.1 < start + size)).length

/-- Slots of a port's partition that are not FREE, orphans included (R20). -/
def State.heldByPort (s : State) (p : Port) : Nat := s.occupied (partitionStart p) 48

/-- Maintenance slots that are not FREE (R20). -/
def State.heldByMaintenance (s : State) : Nat := s.occupied 96 4

/-- The lowest-numbered FREE slot of a partition (R21). -/
def State.freeSlot (s : State) (start size : Nat) : Option Nat :=
  ((List.range size).map (start + ·)).find? fun k => (s.entry k).isNone

/-! ### Contents and conditions of blocks -/

/-- The canonical form of what the array holds: bytes and conditions listed by rising address, none beyond the capacity. An
unlisted byte or condition has not been written since power-on (log 4). -/
abbrev State.memoryWf (s : State) : Prop :=
  Sparse.Wf s.contents ∧ (∀ x ∈ s.contents, x.1 < 32 * capacity) ∧
  Sparse.Wf s.conditions ∧ ∀ x ∈ s.conditions, x.1 < capacity

/-- One byte of the written contents: a byte not written since power-on reads as a free value (R18). -/
def State.byteAt (s : State) (addr : Nat) : Byte :=
  (Sparse.find? s.contents addr).getD (Config.powerOnByte s.powerOns addr)

/-- The written contents of a block, lane 0 first (R13). -/
def State.blockData (s : State) (block : Nat) : List Byte := (List.range 32).map fun i => s.byteAt (32 * block + i)

/-- The integrity condition of a block (R13): one not set since power-on is a free value (R18). -/
def State.condition (s : State) (block : Nat) : Condition :=
  (Sparse.find? s.conditions block).getD (Config.powerOnCondition s.powerOns block)

/-- Set the integrity condition of a block. -/
def State.setCondition (s : State) (block : Nat) (c : Condition) : State :=
  { s with conditions := Sparse.insert s.conditions block c }

/-- The contents with a block written whole: every one of its 32 bytes is written (R12). -/
def writeBytes (contents : List Host.Cell) (block : Nat) (data : List Byte) : List Host.Cell :=
  (List.range 32).foldl (fun m i => Sparse.insert m (32 * block + i) (data.getD i 0)) contents

/-- A block takes new contents and becomes GOOD (R16). -/
def State.writeBlock (s : State) (block : Nat) (data : List Byte) : State :=
  { s with contents := writeBytes s.contents block data, conditions := Sparse.insert s.conditions block .good }

/-- Every block of a written set takes its contents and becomes GOOD, in column order (R12). -/
def State.writeBlocks (s : State) (writes : List (Nat × List Byte)) : State :=
  writes.foldl (fun s w => s.writeBlock w.1 w.2) s

/-- A cell fault worsens a condition by one step (R14). -/
def worsen : Condition → Condition
  | .good => .correctable
  | .correctable => .uncorrectable
  | .uncorrectable => .uncorrectable

/-- How a read classifies a block by its condition (R15). -/
def classify : Condition → ReadClass
  | .good => .ok
  | .correctable => .corrected
  | .uncorrectable => .poisoned

end Sys2Proof.Machine
end

