-- ==== Sys2Proof/Machine/Flags.lean ====
section
/-! DEFINITION. The conditions and sets the rules compute from the state: ages and overlaps (R24, R32), hold reasons (R31 to
R34), ready queues (R46), close-readiness and close decisions (R6, R54), candidates (R50, R60), the conditions the Power
Controller watches (R44, R90, R152, R178, R181), and the sets of a reply (R158). -/

namespace Sys2Proof.Machine

/-! ### Entries: ages, classes, holds -/

/-- `x` is older than `y` (R24): the smaller age; entries of one fill, which share an age, are created in cursor order, so
the one created first has the lower first block (log 12). -/
def Entry.older (x y : Entry) : Bool := decide (x.age < y.age ∨ (x.age = y.age ∧ x.first < y.first))

/-- Read-class entries (R32). -/
def Entry.readClass (e : Entry) : Bool := decide (e.kind = .read)

/-- The entry is a BARRIER. -/
def Entry.isBarrier (e : Entry) : Bool := decide (e.kind = .barrier)

/-- Two entries' block ranges share a block (R32); a BARRIER has no range. -/
def Entry.overlaps (x y : Entry) : Bool := rangesOverlap x.first x.count y.first y.count

/-- Entries of the same port that carry the same session number (R33). -/
def sameSession : Owner → Owner → Bool
  | .port p _ n _, .port q _ m _ => decide (p = q ∧ n = m)
  | _, _ => false

/-- HAZARD: an older entry overlaps, unless both are read-class (R32). -/
def hazardHolds (table : List (Nat × Entry)) (e : Entry) : Bool :=
  table.any fun x => x.2.older e && x.2.overlaps e && !(x.2.readClass && e.readClass)

/-- BARRIER: to an entry that is not a BARRIER, an older BARRIER of its port and session; to a BARRIER, any older entry of
its port and session (R33). -/
def barrierHolds (table : List (Nat × Entry)) (e : Entry) : Bool :=
  table.any fun x => x.2.older e && sameSession x.2.owner e.owner && (x.2.isBarrier || e.isBarrier)

/-- FILL: a fill runs, the entry is younger than it, and one of its blocks lies in the fill's range at or above the cursor
(R34). -/
def fillHolds (fill : Option Fill) (e : Entry) : Bool :=
  match fill with
  | none => false
  | some f => decide (f.age < e.age) && rangesOverlap e.first e.count f.cursor (f.first + f.count - f.cursor)

/-- The hold reasons of an entry against a table and a fill record (R31). -/
def holdsOf (table : List (Nat × Entry)) (fill : Option Fill) (e : Entry) : Holds where
  hazard := hazardHolds table e
  barrier := barrierHolds table e
  fill := fillHolds fill e

/-- The empty set of hold reasons. -/
def Holds.empty : Holds := ⟨false, false, false⟩

/-- No hold reason applies. -/
def Holds.isEmpty (h : Holds) : Bool := !h.hazard && !h.barrier && !h.fill

/-- The oldest of some entries (R24). -/
def oldestOf (l : List (Nat × Entry)) : Option (Nat × Entry) :=
  l.foldl (fun acc x =>
    match acc with
    | none => some x
    | some y => if x.2.older y.2 then some x else some y) none

/-- Put an entry in a queue at the place its age gives it (R47). -/
def insertByAge (x : Nat × Entry) : List (Nat × Entry) → List (Nat × Entry)
  | [] => [x]
  | y :: t => if x.2.older y.2 then x :: y :: t else y :: insertByAge x t

/-- The entry is QUEUED on bank `b`. -/
def Entry.queuedOn (e : Entry) (b : Fin 16) : Bool := decide (e.state = .queued ∧ bankOf e.first = b)

/-- The ready queue of a bank: its QUEUED entries, oldest first (R46; log 13). -/
def State.readyQueue (s : State) (b : Fin 16) : List (Nat × Entry) :=
  (s.table.filter fun x => x.2.queuedOn b).foldl (fun q x => insertByAge x q) []

/-- The bank's ready queue is empty. -/
def State.queueEmpty (s : State) (b : Fin 16) : Bool := s.table.all fun x => !x.2.queuedOn b

/-- An entry of the bank is in IN-UPDATE and pins its row (R55). -/
def State.pinned (s : State) (b : Fin 16) : Bool :=
  s.table.any fun x => decide (x.2.state = .inUpdate ∧ bankOf x.2.first = b)

/-- A queued entry of an OPEN bank whose row is the open row (R46). -/
def State.rowHit (s : State) (e : Entry) : Bool :=
  let b := s.bank (bankOf e.first)
  decide (e.state = .queued ∧ b.state = .opened ∧ b.openRow = some (rowOf e.first))

/-- The table is empty (R44). -/
def State.tableEmpty (s : State) : Bool := s.table.isEmpty

/-- A SCRUB entry is in the table. -/
def State.scrubInTable (s : State) : Bool := s.table.any fun x => decide (x.2.kind = .scrub)

/-! ### Calibration, urgency, refresh -/

/-- A calibration is pending (R96). -/
def State.calPending (s : State) : Bool :=
  match s.maint.cal with
  | .pending _ => true
  | _ => false

/-- The calibration state is IDLE (R96). -/
def State.calIdle (s : State) : Bool := decide (s.maint.cal = .idle)

/-- The bank is urgent: refresh debt 6 or 7 (R58). -/
def State.urgent (s : State) (b : Fin 16) : Bool := decide (6 ≤ (s.bank b).debt)

/-- Every bank is CLOSED, so no refresh is in progress either (R9). -/
def State.allClosed (s : State) : Bool := allBanks.all fun b => decide ((s.bank b).state = .closed)

/-- No bank is OPENING, OPEN or CLOSING (R178). -/
def State.noRowInUse (s : State) : Bool :=
  allBanks.all fun b => decide ((s.bank b).state = .closed ∨ (s.bank b).state = .refreshing)

/-- Refresh-clear: every bank's debt is 0 with no refresh in progress (R90). -/
def State.refreshClear (s : State) : Bool :=
  allBanks.all fun b => decide ((s.bank b).debt = 0 ∧ (s.bank b).state ≠ .refreshing)

/-! ### Closing a bank -/

/-- `span` has passed since a recorded end, or none is recorded (R6). -/
def passedSince (now : Time) (ended : Option Time) (span : Time) : Bool :=
  match ended with
  | none => true
  | some t => decide (t + span ≤ now)

/-- The bank is close-ready (R6). -/
def State.closeReady (s : State) (b : Fin 16) : Bool :=
  let r := s.bank b
  decide (r.state = .opened) && r.minOpenDone && !s.accessInProgress b &&
    passedSince s.now r.lastReadEnd readToClose && passedSince s.now r.lastWriteEnd writeRecovery

/-- The ready queue of the bank holds a row-hit entry (R46). -/
def State.hasRowHit (s : State) (b : Fin 16) : Bool := s.table.any fun x => x.2.queuedOn b && s.rowHit x.2

/-- The row-miss decision: no row-hit entry queued and at least one row-miss entry queued (R54). -/
def State.rowMissDecision (s : State) (b : Fin 16) : Bool := !s.queueEmpty b && !s.hasRowHit b

/-- The hit-limit decision (R54, R56). -/
def State.hitLimitReached (s : State) (b : Fin 16) : Bool := decide (s.store.hitLimit ≤ (s.bank b).hitStreak)

/-- The close decision of an OPEN bank (R54). -/
def State.closeDecision (s : State) (b : Fin 16) : Bool :=
  s.rowMissDecision b || s.hitLimitReached b || (s.bank b).idleDecision || s.urgent b || s.calPending

/-- A close of the bank may begin: by its close decision, unpinned (R55), or in the run-down without one (R19). -/
def State.mayClose (s : State) (b : Fin 16) : Bool :=
  s.closeReady b && (s.runDown || (s.closeDecision b && !s.pinned b))

/-! ### The opening arbiter -/

/-- The window record at the present: the starts less than 36 ns ago (R48, R49; log 19). -/
def State.liveWindow (s : State) : List Time := s.window.filter fun t => decide (s.now < t + openingWindow)

/-- An opening may be granted at the present (R49). -/
def State.openingAllowed (s : State) : Bool :=
  decide (s.liveWindow.length < 5) && passedSince s.now s.spacing openingSpacing

/-- What the opening arbiter may grant a bank (R50). -/
inductive Opening where
  | rowOpen (row : Nat)
  | refresh
  deriving DecidableEq, Repr

/-- The bank is a class-1 candidate (R50). -/
def State.class1 (s : State) (b : Fin 16) : Bool := decide ((s.bank b).state = .closed) && s.urgent b

/-- The bank is a class-2 candidate (R50). -/
def State.class2 (s : State) (b : Fin 16) : Bool :=
  decide ((s.bank b).state = .closed) && !s.urgent b && !s.queueEmpty b

/-- The bank is a class-3 candidate (R50). -/
def State.class3 (s : State) (b : Fin 16) : Bool :=
  decide ((s.bank b).state = .closed ∧ 1 ≤ (s.bank b).debt) && !s.urgent b && s.queueEmpty b

/-- Among banks, the one with the largest debt, the lower-numbered between equals (R51). -/
def State.mostIndebted (s : State) (l : List (Fin 16)) : Option (Fin 16) :=
  l.foldl (fun acc b =>
    match acc with
    | none => some b
    | some c => if (s.bank c).debt < (s.bank b).debt then some b else some c) none

/-- The candidate the opening arbiter chooses (R51): class 1, then class 2, then class 3. While a calibration is pending
class 1 alone is permitted (R52, R59). -/
def State.openingChoice (s : State) : Option (Fin 16 × Opening) :=
  match s.mostIndebted (allBanks.filter s.class1) with
  | some b => some (b, .refresh)
  | none =>
    if s.calPending then none
    else
      match oldestOf (s.table.filter fun x => decide (x.2.state = .queued) && s.class2 (bankOf x.2.first)) with
      | some x => some (bankOf x.2.first, .rowOpen (rowOf x.2.first))
      | none => (s.mostIndebted (allBanks.filter s.class3)).map fun b => (b, .refresh)

/-- The moment allows a grant (R52): window and spacing, the Array NORMAL, no NAP exit delay; and no calibration run is to
begin in this very event, which goes before an urgent refresh (R100; log 21). -/
def State.openingMoment (s : State) : Bool :=
  s.openingAllowed && s.calRunDue.isNone && s.power.exitDue.isNone && !(s.calPending && s.allClosed)

/-! ### The column arbiter -/

/-- The bank takes no first access: hit limit, urgency or a pending calibration (R60). -/
def State.blocked (s : State) (b : Fin 16) : Bool := s.hitLimitReached b || s.urgent b || s.calPending

/-- The column arbiter has no candidate in HELD and during the run-down (R60). -/
def State.columnStopped (s : State) : Bool := decide (s.power.state = .held) || s.runDown

/-- The oldest write-back waiting (R60, R61): an entry in IN-UPDATE whose write-back is not the access in flight. -/
def State.writeBackChoice (s : State) : Option (Nat × Entry) :=
  if s.columnStopped then none
  else oldestOf (s.table.filter fun x =>
    decide (x.2.state = .inUpdate ∧ s.path.flight.bind (·.slot) ≠ some x.1))

/-- The oldest first access over the banks that are OPEN and not blocked (R60, R61). -/
def State.firstAccessChoice (s : State) : Option (Nat × Entry) :=
  if s.columnStopped then none
  else oldestOf (s.table.filter fun x => s.rowHit x.2 && !s.blocked (bankOf x.2.first))

/-- The column path allows an access of direction `d` at the present (R10). -/
def State.pathAllows (s : State) (d : Direction) : Bool :=
  s.path.flight.isNone &&
    match s.path.dir with
    | none => true
    | some e => decide (e = d) || passedSince s.now s.path.lastEnd (turnaround e)

/-! ### What the Power Controller watches -/

/-- The conditions of the NAP idle timer (R178). -/
def State.napConditions (s : State) : Bool :=
  decide (s.power.state = .active) && decide (s.store.napIdle ≠ 0) && s.tableEmpty && s.noRowInUse && s.calIdle

/-- The conditions for ENTERING to begin (R181). -/
def State.enteringConditions (s : State) : Bool :=
  decide (s.power.state = .active ∨ s.power.state = .nap) &&
    (s.portA.vote || s.portB.vote) &&
    (!s.linkActive .a || s.portA.vote) && (!s.linkActive .b || s.portB.vote) &&
    s.tableEmpty && s.fill.isNone && s.calIdle

/-- With the link ACTIVE, nothing is owed on it: replay buffer, control queue, reply list and notice slots are empty
(R152). -/
def State.linkClear (s : State) (p : Port) : Bool :=
  let r := s.port p
  r.link.buffer.isEmpty && r.link.control.isEmpty && r.replies.isEmpty &&
    (List.finRange 6).all fun i => (r.link.notices[i]).isNone

/-- The wait of ENTERING is over (R182). -/
def State.retainConditions (s : State) : Bool :=
  (!s.linkActive .a || s.linkClear .a) && (!s.linkActive .b || s.linkClear .b) && s.refreshClear

/-- The run-down of the banks is over: no bank OPENING, OPEN or CLOSING and no column access in flight (R19; log 11). -/
def State.ranDown (s : State) : Bool := s.noRowInUse && s.path.flight.isNone

/-! ### Rights, tags, sets -/

/-- A port's default rights (R129). -/
def Store.defaultRights (c : Store) : Port → Rights
  | .a => c.defaultRightsA
  | .b => c.defaultRightsB

/-- A region's rights for a port. -/
def Region.rights (r : Region) : Port → Rights
  | .a => r.rightsA
  | .b => r.rightsB

/-- An enabled slot covers a granule (R127). -/
def Region.covers (r : Region) (granule : Nat) : Bool := decide (r.first ≤ granule ∧ granule < r.first + r.count)

/-- The lowest-numbered enabled slot that covers a granule (R128). -/
def State.governing (s : State) (granule : Nat) : Option Region :=
  (List.finRange 8).findSome? fun i => (s.regions[i]).filter fun r => r.covers granule

/-- The governing rights of a port over a granule (R128). -/
def State.rightsOver (s : State) (p : Port) (granule : Nat) : Rights :=
  match s.governing granule with
  | some r => r.rights p
  | none => s.store.defaultRights p

/-- Requests of a port held by the Management Unit: in the queue, or a FILL-ABORT awaiting its reply (R162, R164). -/
def State.mgmtHeld (s : State) (p : Port) : Nat :=
  (s.mgmt.queue.filter fun q => decide (q.port = p)).length +
    match s.fill.bind (·.abortReply) with
    | some (q, _) => if q = p then 1 else 0
    | none => 0

/-- The owner is a live entry of port `p` carrying the tag (R162): not an orphan. -/
def Owner.carries (o : Owner) (p : Port) (tag : Byte) : Bool :=
  match o with
  | .port q t _ orphan => decide (q = p ∧ t = tag) && !orphan
  | .maintenance => false

/-- A tag is in use on a port (R162). -/
def State.tagInUse (s : State) (p : Port) (tag : Byte) : Bool :=
  (s.table.any fun x => x.2.owner.carries p tag) ||
    (s.mgmt.queue.any fun q => decide (q.port = p ∧ q.tag = tag)) ||
    decide (s.fill.bind (·.abortReply) = some (p, tag))

/-- A mask enables some lanes and not others (R75). -/
def partialMask (m : BitVec 32) : Bool := decide (m ≠ 0#32 ∧ m ≠ BitVec.allOnes 32)

/-- A mask enables every lane (R75). -/
def fullMask (m : BitVec 32) : Bool := decide (m = BitVec.allOnes 32)

/-- The positions of a list, from 0, whose elements satisfy a condition. -/
def positionsOf {α : Type} (f : α → Bool) (l : List α) : List Nat :=
  (l.zipIdx.filter fun x => f x.1).map (·.2)

/-- A set of positions as a byte: bit p stands for position p (R158). -/
def positionByte (l : List Nat) : Nat := l.foldl (fun acc p => acc ||| 2 ^ p) 0

/-- The partial blocks of a MASKED-WRITE classified POISONED, which are skipped (R78). -/
def skippedSet (masks : List (BitVec 32)) (classes : List ReadClass) : List Nat :=
  positionsOf (fun x => partialMask x.1 && decide (x.2 = .poisoned)) (masks.zip classes)

end Sys2Proof.Machine
end

