-- ==== Sys2Proof/Machine/Ops.lean ====
section
/-! DEFINITION. The named operations the commands are made of: notices, timers that follow conditions, credits and frames,
holds and freeing, votes, link-down, calibration triggers, the end of NAP, resets. -/

namespace Sys2Proof.Machine

/-! ### Timers that follow conditions -/

/-- The conditions for a bank's idle-close timer to run (R57): OPEN, its queue empty, no entry of it in IN-UPDATE; not
during the run-down, which closes the bank itself (R19, R65; log 20). -/
def State.idleCloseConditions (s : State) (b : Fin 16) : Bool :=
  decide ((s.bank b).state = .opened) && s.queueEmpty b && !s.pinned b && !s.runDown

/-- A bank's idle-close timer and idle decision after an event (R57): started in the first event in which the conditions hold,
for IDLE-CLOSE as it stands then (at 0 the decision holds at once); the timer cancelled when they cease; the decision
kept until an entry is queued or the bank is no longer OPEN. While the decision holds, conditions that come to hold
again start no timer: DESIGN CHOICE (log 29). -/
def State.settleBank (s : State) (b : Fin 16) (r : Bank) : Bank :=
  let kept := r.idleDecision && decide (r.state = .opened) && s.queueEmpty b && !s.runDown
  if s.idleCloseConditions b then
    if kept || r.idleDue.isSome then { r with idleDecision := kept }
    else if s.store.idleClose = 0 then { r with idleDecision := true }
    else { r with idleDue := some (s.now + ns s.store.idleClose), idleDecision := false }
  else { r with idleDue := none, idleDecision := kept }

/-- The NAP idle timer and nap due after an event (R178): started in the first event in which the conditions hold while it is
stopped and nap due is clear; stopped, and nap due cleared, when one ceases. -/
def State.settlePower (s : State) : Power :=
  if s.napConditions then
    if s.power.idleDue.isSome || s.power.napDue then s.power
    else { s.power with idleDue := some (s.now + us s.store.napIdle) }
  else { s.power with idleDue := none, napDue := false }

/-- What every event that may change their conditions does to the idle-close timers (R57) and the NAP idle timer (R178). -/
def State.settle (s : State) : State :=
  { s with banks := Vector.ofFn fun b => s.settleBank b s.banks[b], power := s.settlePower }

/-! ### Notices (R148) -/

/-- The code of a notice kind (Table 9-8). -/
def noticeCode : Notice → Fin 6
  | .uncorrectable .. => 0
  | .refreshMissed .. => 1
  | .thermal .. => 2
  | .fillDone .. => 3
  | .retainVote .. => 4
  | .retainEntering => 5

/-- A port's notice mask (R167). -/
def Store.noticeMask (c : Store) : Port → BitVec 32
  | .a => c.noticeMaskA
  | .b => c.noticeMaskB

/-- The kind is enabled on the port: FILL-DONE and RETAIN-ENTERING are raised whatever the mask holds (R148). -/
def State.noticeEnabled (s : State) (p : Port) (n : Notice) : Bool :=
  let code := noticeCode n
  decide (code = 3 ∨ code = 5) || (s.store.noticeMask p).getLsbD code.val

/-- A notice slot takes a raising: empty, it takes the details; full, it keeps them and counts (R148). -/
def NoticeSlot.take (slot : Option NoticeSlot) (n : Notice) : NoticeSlot :=
  match slot with
  | none => ⟨n, 0⟩
  | some x => { x with alsoSince := min 255 (x.alsoSince + 1) }

/-- A notice is handed to a port's link (R148): discarded unless the link is ACTIVE and the kind enabled. -/
def State.raiseNotice (s : State) (p : Port) (n : Notice) : State :=
  if s.linkActive p && s.noticeEnabled p n then
    let l := s.link p
    let code := noticeCode n
    s.setLink p { l with notices := l.notices.set code (some (NoticeSlot.take l.notices[code] n)) }
  else s

/-- A notice is handed to both links. -/
def State.raiseBoth (s : State) (n : Notice) : State := (s.raiseNotice .a n).raiseNotice .b n

/-! ### Frames and credits -/

/-- Put a frame on the wire. -/
def State.emit (s : State) (p : Port) (f : Frame) : State :=
  let r := s.port p
  s.setPort p { r with tx := r.tx ++ [f] }

/-- The bytes of a message (Table 9-1). -/
def Message.bytes (m : Message) : List Byte :=
  [m.kind, m.tag, m.option, m.status] ++ leBytes 4 m.block.toNat ++ leBytes 4 m.extra.toNat ++ m.payload

/-- The bytes of a frame the part sends (R134). -/
def Frame.bytes (f : Frame) : List Byte := frameBytes f.kind f.seq f.ackSeq f.memReturned f.mgmtReturned f.ackValid f.body

/-- Headers carry credit returns while the control queue holds fewer than 12 messages (R145). -/
def Link.returnsCredits (l : Link) : Bool := decide (l.control.length < 12)

/-- The link record after a header that carries the acknowledgement and the credit returns is built: nothing is owed, the
acknowledgement timer stops, the credits carried move from pending to outstanding (R139, R145). -/
def Link.headerBuilt (l : Link) : Link :=
  let l := { l with unacked := 0, ackDue := none }
  if l.returnsCredits then
    { l with memOut := l.memOut + l.memPend, memPend := 0, mgmtOut := l.mgmtOut + l.mgmtPend, mgmtPend := 0 }
  else l

/-- The memory credits the next header returns (R145). -/
def Link.memReturned (l : Link) : Nat := if l.returnsCredits then l.memPend else 0

/-- The management credits the next header returns (R145). -/
def Link.mgmtReturned (l : Link) : Nat := if l.returnsCredits then l.mgmtPend else 0

/-- An ACK frame is sent (R139): its sequence field carries the next number. -/
def State.sendAck (s : State) (p : Port) : State :=
  let l := s.link p
  (s.setLink p l.headerBuilt).emit p
    ⟨2, l.next, l.expected - 1, l.memReturned, l.mgmtReturned, l.ackValid, []⟩

/-- A REPLAY-REQ naming the expected number is sent (R138); it carries no acknowledgement. -/
def State.sendReplayReq (s : State) (p : Port) : State :=
  s.emit p ⟨3, (s.link p).expected, 0, 0, 0, false, []⟩

/-- A new MSG frame is built and sent (R140). -/
def State.sendMessage (s : State) (p : Port) (m : Message) : State :=
  let l := s.link p
  let built := l.headerBuilt
  (s.setLink p { built with
    next := l.next + 1
    sentCount := min 128 (l.sentCount + 1)
    buffer := l.buffer ++ [⟨l.next, m, l.memReturned, l.mgmtReturned⟩]
    replayDue := if l.buffer.isEmpty then some (s.now + replayDelay) else l.replayDue }).emit p
    ⟨1, l.next, l.expected - 1, l.memReturned, l.mgmtReturned, l.ackValid, m.bytes⟩

/-- The acknowledgement timer starts if it is not running (R139, R145). -/
def Link.startAckTimer (l : Link) (now : Time) : Link :=
  { l with ackDue := match l.ackDue with
      | none => some (now + ackDelay)
      | some t => some t }

/-- A credit of a class comes back to pending return (R144): on an ACTIVE link it goes to pending and the acknowledgement
timer starts if it is not running (R145); on any other it changes nothing. -/
def State.returnCredit (s : State) (p : Port) (cls : RequestClass) : State :=
  if s.linkActive p then
    let l := (s.link p).startAckTimer s.now
    s.setLink p (match cls with
      | .memory => { l with memPend := l.memPend + 1 }
      | .management => { l with mgmtPend := l.mgmtPend + 1 })
  else s

/-! ### Holds, DONE and freeing -/

/-- What a HELD entry becomes when its reasons are worked out afresh (R35): with none left a BARRIER goes to DONE (R36) and
every other kind to QUEUED. -/
def Entry.reheld (e : Entry) (h : Holds) : Entry :=
  if e.state = .held then
    if h.isEmpty then { e with holds := h, state := if e.isBarrier then .done else .queued }
    else { e with holds := h }
  else e

/-- A slot leaves the table: its entry's record is cleared and, for a port entry, a credit is released (R39, R40). The
re-evaluation that a freeing starts is `State.reevaluate`. -/
def State.freeSlotOf (s : State) (slot : Nat) : State :=
  match s.entry slot with
  | none => s
  | some e =>
    match e.owner.port? with
    | none => s.clearSlot slot
    | some p => (s.clearSlot slot).returnCredit p .memory

/-- A BARRIER that has gone to DONE joins its port's reply list, or, an orphan, is freed at once (R38, R43). -/
def State.barrierDone (s : State) (slot : Nat) (e : Entry) : State :=
  match e.owner with
  | .maintenance => s
  | .port p _ _ orphan =>
    if orphan then s.freeSlotOf slot
    else
      let r := s.port p
      s.setPort p { r with replies := r.replies ++ [slot] }

/-- The BARRIERs that one pass of re-evaluation brings from HELD to DONE (R36). -/
def State.barriersToComplete (s : State) : List (Nat × Entry) :=
  s.table.filter fun x =>
    decide (x.2.state = .held) && x.2.isBarrier && (holdsOf s.table s.fill x.2).isEmpty

/-- One re-evaluation of every HELD entry against the table as it stands (R35). -/
def State.reevaluatePass (s : State) : State :=
  let finished := s.barriersToComplete
  finished.foldl (fun s x => s.barrierDone x.1 x.2)
    { s with table := Sparse.map (fun _ e => e.reheld (holdsOf s.table s.fill e)) s.table }

/-- Re-evaluation (R35), repeated in the same event while it frees an orphan BARRIER, since a freeing starts one again (R39,
R43). Each repetition frees an entry, so the table's length bounds them. -/
def reevaluateFor : Nat → State → State
  | 0, s => s.reevaluatePass
  | n + 1, s =>
    if s.barriersToComplete.any fun x => x.2.owner.isOrphan then reevaluateFor n s.reevaluatePass
    else s.reevaluatePass

/-- Re-evaluation of the hold reasons (R35). -/
def State.reevaluate (s : State) : State := reevaluateFor s.table.length s

/-! ### Votes -/

/-- Set a port's vote. -/
def State.setVote (s : State) (p : Port) (v : Bool) : State :=
  let r := s.port p
  s.setPort p { r with vote := v }

/-- A port's vote, if it holds one, is removed and a withdrawal notice is raised on the other port (R180). -/
def State.removeVote (s : State) (p : Port) : State :=
  if (s.port p).vote then (s.setVote p false).raiseNotice (otherPort p) (.retainVote false) else s

/-! ### Link-down (R149, R150) -/

/-- At the link-down of a port its DONE entries leave the table (R42). -/
def Entry.droppedAtDown (e : Entry) (p : Port) : Bool :=
  match e.owner with
  | .port q _ _ orphan => decide (q = p) && !orphan && decide (e.state = .done)
  | .maintenance => false

/-- At the link-down of a port its other entries become orphans (R42). -/
def Entry.orphanedAtDown (e : Entry) (p : Port) : Entry :=
  match e.owner with
  | .port q tag session orphan =>
    { e with owner := .port q tag session (orphan || decide (q = p)) }
  | .maintenance => e

/-- The table's part of a link-down (R42): DONE entries of the port freed and their replies discarded, its other entries
orphans, its session number up by 1, and the holds re-evaluated. -/
def State.orphanPort (s : State) (p : Port) : State :=
  let r := s.port p
  let s := s.setPort p { r with session := r.session + 1, replies := [] }
  let table := (s.table.filter fun x => !x.2.droppedAtDown p).map fun x => (x.1, x.2.orphanedAtDown p)
  State.reevaluate { s with table := table }

/-- The Management Unit's part of a link-down (R166): the port's waiting requests discarded, its FILL-ABORT let go, its
RESTART that awaits the acknowledgement abandoned (R173). -/
def State.dropRequests (s : State) (p : Port) : State :=
  { s with
    mgmt := {
      queue := s.mgmt.queue.filter fun q => decide (q.port ≠ p)
      unit := if s.mgmt.unit = .stopped p then .free else s.mgmt.unit }
    fill := s.fill.map fun f =>
      match f.abortReply with
      | some (q, t) => { f with abortReply := if q = p then none else some (q, t) }
      | none => f }

/-- An ACTIVE link goes down for a reason (R149, R150): the LINK-DOWN frame if the reason sends one, the session cleared,
entries freed or orphaned, requests discarded, the vote removed. A link in any other state is left as it is. The
requests of the other port that an abandoned RESTART leaves waiting are taken by `State.drain`. The LINK-DOWN frame's
acknowledgement-valid bit is DESIGN CHOICE clear (log 30). -/
def State.linkDown (s : State) (p : Port) (why : DownReason) : State :=
  if s.linkActive p then
    let s := if downFrameSent why then
        s.emit p ⟨6, 0, 0, 0, 0, false, [BitVec.ofNat 8 (downCode why)]⟩ else s
    let s := s.setLink p Link.cleared
    let s := s.orphanPort p
    let s := s.dropRequests p
    s.removeVote p
  else s

/-- A retry attempt is counted (R143): at the fourth the link goes down with RETRY-LIMIT. -/
def State.retryAttempt (s : State) (p : Port) : State :=
  let l := s.link p
  if 4 ≤ l.retry + 1 then s.linkDown p .retryLimit else s.setLink p { l with retry := l.retry + 1 }

/-- A message is placed in a port's control queue (R146): on a link that is not ACTIVE it is discarded (log 23); a queue that
holds 64 takes the link down with QUEUE-OVERRUN. -/
def State.placeControl (s : State) (p : Port) (m : Message) : State :=
  if s.linkActive p then
    let l := s.link p
    if 64 ≤ l.control.length then s.linkDown p .queueOverrun
    else s.setLink p { l with control := l.control ++ [m] }
  else s

/-- A REFUSED is placed (R159). -/
def State.placeRefused (s : State) (p : Port) (h : BodyHead) (why : Reason) : State :=
  s.placeControl p ⟨36, h.tag, h.kind, BitVec.ofNat 8 (reasonCode why), h.block, 0, []⟩

/-! ### NAP, calibration triggers -/

/-- NAP ends for ACTIVE and the exit delay starts (R179); in any other power state nothing happens. -/
def State.endNap (s : State) : State :=
  if s.power.state = .nap then
    { s with power := { s.power with state := .active, exitDue := some (s.now + napExitDelay) } }
  else s

/-- A calibration trigger against the record (R97). -/
def Maintenance.takeTrigger (m : Maintenance) (k : CalKind) : Maintenance :=
  match m.cal, k with
  | .idle, k => { m with cal := .pending k }
  | .pending _, .long => { m with cal := .pending .long }
  | .pending _, .short => m
  | .running _, .long => { m with followOn := some .long }
  | .running .short, .short => if m.followOn = none then { m with followOn := some .short } else m
  | .running .long, .short => m

/-- A calibration trigger is taken (R97): discarded in ENTERING, RETAIN and HELD (R103); one that makes the state pending ends
NAP (R100, R179). -/
def State.calTrigger (s : State) (k : CalKind) : State :=
  if s.power.state = .entering ∨ s.power.state = .retain ∨ s.power.state = .held then s
  else
    let t := { s with maint := s.maint.takeTrigger k }
    if s.calIdle then t.endNap else t

/-! ### Refresh timers -/

/-- The interval timers are started with the stagger (R86). -/
def State.startIntervals (s : State) : State :=
  s.mapBanks fun b r => { r with intervalDue := some (s.now + stagger s.maint.hot b.val) }

/-- The interval timers are started with the stagger if they are stopped (R86). -/
def State.startIntervalsIfStopped (s : State) : State :=
  if allBanks.all fun b => (s.bank b).intervalDue.isNone then s.startIntervals else s

/-! ### Resets -/

/-- The run-down of the banks, if it is over, leaves the column path at its reset values (R10, R19; log 11). -/
def State.settleRunDown (s : State) : State :=
  if s.runDown && s.ranDown then { s with runDown := false, path := ColumnPath.cleared } else s

/-- What a pending or running calibration becomes as RST_N goes low (R103): a pending one IDLE, a running one runs on without
its follow-on; the timer stops and the start-up reading asked for is cancelled (R95). -/
def Maintenance.resetLow (m : Maintenance) : Maintenance :=
  { m with
    cal := match m.cal with
      | .running k => .running k
      | _ => .idle
    followOn := none
    calTimerDue := none
    readingAsked := false }

/-- A port as RST_N goes low: link record at its power-on values, session 0, reply list empty, no vote (R45, R151, R175);
what has been put on the wire stays. -/
def PortRec.resetLow (r : PortRec) : PortRec := { PortRec.powerOn with tx := r.tx }

/-- The effect of RST_N going low on every block (R175, Table 11-3). -/
def State.resetLow (s : State) : State :=
  let s := { s with
    power := { s.power with state := .held, idleDue := none, napDue := false, exitDue := none, timeBase := 0, tickDue := none }
    table := []
    ageCounter := 0
    portA := s.portA.resetLow
    portB := s.portB.resetLow
    path := { s.path with flight := s.path.flight.map fun f : Flight => { f with slot := none } }
    runDown := true
    maint := s.maint.resetLow
    scrub := Scrub.cleared
    fill := none
    regions := Vector.replicate 8 none
    mgmt := ⟨[], .free⟩
    store := Store.defaults }
  let s := s.mapBanks fun _ r => { r with idleDue := none, idleDecision := false }
  s.startIntervalsIfStopped.settleRunDown

/-- What a release of RST_N does to every bank: the interval timer stops, the corrected count and the hit streak become 0
(R17, R65, R86). -/
def Bank.released (r : Bank) : Bank := { r with intervalDue := none, corrected := 0, hitStreak := 0 }

/-- The end of HELD (R176): STARTING, the nap-entry and missed-refresh counts 0, every bank as a release leaves it, the
start-up reading asked for. -/
def State.leaveHeld (s : State) : State :=
  State.mapBanks
    { s with
      power := { s.power with state := .starting, napCount := 0 }
      maint := { s.maint with missed := 0, readingAsked := true } }
    fun _ r => r.released

end Sys2Proof.Machine
end

