-- ==== Sys2Proof/Machine/Intake.lean ====
section
/-! DEFINITION. The Request Intake and what feeds it: admission of memory requests (R26 to R29) and of maintenance work
(R30), the scrub step (R108, R109), FILL entries and the end of a fill (R113 to R116), and an entry becoming DONE (R37). -/

namespace Sys2Proof.Machine

/-! ### Admission -/

/-- The record of a new entry: HELD with its hold reasons worked out, or, with none, QUEUED (R31). A BARRIER with none goes to
DONE in the same event, which `State.place` does. -/
def State.newEntry (s : State) (owner : Owner) (kind : EntryKind) (first count age : Nat) (data : List (List Byte)) : Entry :=
  let e : Entry := ⟨owner, kind, first, count, data, age, .held, Holds.empty, [], [], none, none⟩
  e.reheld (holdsOf s.table s.fill e)

/-- A new entry is placed in a slot (R21, R31); a BARRIER already complete joins its port's reply list (R36, R38). -/
def State.place (s : State) (slot : Nat) (e : Entry) : State :=
  let s := s.setEntry slot e
  if e.state = .done then s.barrierDone slot e else s

/-- An age is handed out (R25, R26). -/
def State.takeAge (s : State) : State := { s with ageCounter := s.ageCounter + 1 }

/-- A refused memory request (R27): a REFUSED placed and its credit released. -/
def State.refuseMemory (s : State) (p : Port) (h : BodyHead) (why : Reason) : State :=
  (s.placeRefused p h why).returnCredit p .memory

/-- The rights that pass for a memory request (R28). -/
def memAllowed (r : MemRequest) (rights : Rights) : Bool :=
  match r with
  | .read _ _ => decide (rights ≠ .none)
  | .write _ _ | .maskedWrite .. | .atomic .. => decide (rights = .readWrite)
  | .barrier => true

/-- The admission checks of Table 2-3, in order: why the request is refused, if it is. -/
def State.intakeRefusal (s : State) (p : Port) (r : MemRequest) : Option Reason :=
  match memRange r with
  | some (first, count) =>
    if capacity ≤ first ∨ rowContained first count = false then some .badAddress
    else if memAllowed r (s.rightsOver p (granuleOf first)) = false then some .accessDenied
    else if s.power.state = .entering then some .power
    else none
  | none => if s.power.state = .entering then some .power else none

/-- Admission of a port's memory request into a slot (R27): an age, the record, its holds; NAP ends and the port's vote is
removed (R29). -/
def State.admission (s : State) (p : Port) (tag : Byte) (r : MemRequest) (slot : Nat) : State :=
  let range := (memRange r).getD (0, 0)
  let e := s.newEntry (.port p tag (s.port p).session false) (memEntryKind r) range.1 range.2 s.ageCounter (memData r)
  ((s.takeAge.place slot e).endNap).removeVote p

/-- The intake takes a memory request (R27): refused, or admitted into the lowest FREE slot of its port's partition (R21). No
outcome when the partition has no FREE slot, which the credit account rules out (log 16). -/
def State.intake (s : State) (p : Port) (h : BodyHead) (r : MemRequest) : Option State :=
  match s.intakeRefusal p r with
  | some why => some (s.refuseMemory p h why)
  | none => (s.freeSlot (partitionStart p) 48).map fun slot => s.admission p h.tag r slot

/-- The maintenance slot an admission of maintenance work takes (R30): none if all four are occupied, or if the kind is SCRUB
and a SCRUB entry occupies one. -/
def State.maintenanceSlot (s : State) (kind : EntryKind) : Option Nat :=
  if kind = .scrub ∧ s.scrubInTable then none else s.freeSlot 96 4

/-- Admission of maintenance work into a slot (R30); it ends NAP (R29) and removes no vote. -/
def State.maintenanceAdmission (s : State) (kind : EntryKind) (first age : Nat) (data : List (List Byte)) (slot : Nat) : State :=
  (s.place slot (s.newEntry .maintenance kind first 8 age data)).endNap

/-! ### Scrub steps -/

/-- The scrub cursor advances by one group; from the last group it becomes 0 and the pass count rises (R108). -/
def Scrub.advance (c : Scrub) : Scrub :=
  if c.cursor = 4194303 then { c with cursor := 0, passes := min 65535 (c.passes + 1) } else { c with cursor := c.cursor + 1 }

/-- A step can be taken into this slot (R108): no SCRUB entry, no fill, a maintenance admission granted. -/
def State.stepSlot (s : State) : Option Nat := if s.fill.isSome then none else s.maintenanceSlot .scrub

/-- A step is taken (R108): a SCRUB entry for the group at the cursor, with a new age, and the cursor advances. -/
def State.takeStep (s : State) (slot : Nat) : State :=
  let t := s.takeAge.maintenanceAdmission .scrub (8 * s.scrub.cursor) s.ageCounter [] slot
  { t with scrub := t.scrub.advance }

/-- A pending step is taken once the conditions of R108 hold (R109); the step timer is left as it runs. -/
def State.takePendingStep (s : State) : State :=
  if s.scrub.pendingStep then
    match s.stepSlot with
    | some slot =>
      let t := s.takeStep slot
      { t with scrub := { t.scrub with pendingStep := false } }
    | none => s
  else s

/-! ### Fills -/

/-- A fill's pattern over a group: repeated four times in each of the 8 blocks (R22). -/
def fillData (pattern : BitVec 64) : List (List Byte) :=
  List.replicate 8 (List.replicate 4 (leBytes 8 pattern.toNat)).flatten

/-- One FILL entry is created for the group at the cursor, if R113 allows. -/
def State.createFillEntry (s : State) : State :=
  match s.fill with
  | none => s
  | some f =>
    if !f.aborting && decide (f.cursor < f.first + f.count) && decide (f.inFlight < 3) then
      match s.maintenanceSlot .fill with
      | none => s
      | some slot =>
        let t := s.maintenanceAdmission .fill f.cursor f.age (fillData f.pattern) slot
        { t with fill := some { f with cursor := f.cursor + 8, inFlight := f.inFlight + 1 } }
    else s

/-- FILL entries are created while R113 allows, in cursor order; at most three are in flight. -/
def State.createFillEntries (s : State) : State := s.createFillEntry.createFillEntry.createFillEntry

/-- A MGMT-REPLY is placed and the Management Unit lets go of the request: its credit goes to pending return (R164). -/
def State.replyAndLetGo (s : State) (p : Port) (m : Message) : State :=
  (s.placeControl p m).returnCredit p .management

/-- A MGMT-REPLY with status OK and the fields of Table 9-7. -/
def mgmtReplyOk (tag : Byte) (kind : Nat) (block extra : BitVec 32) (payload : List Byte) : Message :=
  ⟨37, tag, BitVec.ofNat 8 kind, 0, block, extra, payload⟩

/-- A MGMT-REPLY with a failing status (R159): no payload, block number zero, extra as given. -/
def mgmtReplyFail (tag : Byte) (kind : Nat) (why : Reason) (extra : BitVec 32) : Message :=
  ⟨37, tag, BitVec.ofNat 8 kind, BitVec.ofNat 8 (reasonCode why), 0, extra, []⟩

/-- The fill record is removed (R115, R116): every FILL hold released, a pending scrub step taken. -/
def State.removeFill (s : State) : State := (State.reevaluate { s with fill := none }).takePendingStep

/-- After a FILL entry has been freed (R114): the next ones are created; then the fill completes (R115) or a waiting abort is
answered (R116), or it goes on. The holds are worked out against the table as it stands after all of it. -/
def State.fillEntryFreed (s : State) : State :=
  match s.fill with
  | none => s.reevaluate
  | some f =>
    let s := State.createFillEntries { s with fill := some { f with inFlight := f.inFlight - 1 } }
    match s.fill with
    | none => s.reevaluate
    | some f =>
      if f.inFlight ≠ 0 then s.reevaluate
      else if f.aborting then
        let s := s.removeFill
        match f.abortReply with
        | none => s
        | some (p, tag) => s.replyAndLetGo p (mgmtReplyOk tag 24 (BitVec.ofNat 32 f.cursor) 0 [])
      else if f.cursor = f.first + f.count then
        s.removeFill.raiseNotice f.port (.fillDone f.first f.count)
      else s.reevaluate

/-! ### An entry becomes DONE -/

/-- An entry becomes DONE with its record as given (R37): a live port entry joins its port's reply list (R38); an orphan is
freed at once (R43); a maintenance entry is freed and its completion reported (R39, R109, R114). -/
def State.entryDone (s : State) (slot : Nat) (e : Entry) : State :=
  match e.owner with
  | .port p _ _ orphan =>
    if orphan then (s.freeSlotOf slot).reevaluate
    else
      let s := s.setEntry slot { e with state := .done }
      let r := s.port p
      s.setPort p { r with replies := r.replies ++ [slot] }
  | .maintenance =>
    let s := s.clearSlot slot
    if e.kind = .fill then s.fillEntryFreed else s.reevaluate.takePendingStep

end Sys2Proof.Machine
end

