-- ==== Sys2Proof/Machine/Transfers.lean ====
section
/-! DEFINITION. What a column access does (R11, R12, R62): the writes a grant carries, the blocks a read hands on, the Update
Unit's work on them (R67 to R82, R110), the reports and the rewritten marks of the Error Record Table (R118 to R122). -/

namespace Sys2Proof.Machine

/-! ### What a grant carries -/

/-- The classes of a MASKED-WRITE: no block of it is partial (R75). -/
def noPartialBlock (masks : List (BitVec 32)) : Bool := masks.all fun m => !partialMask m

/-- The entry's first access is a write (R62, R66). -/
def Entry.writesFirst (e : Entry) : Bool :=
  match e.kind with
  | .write | .fill => true
  | .maskedWrite masks => noPartialBlock masks
  | .read | .atomic .. | .barrier | .scrub => false

/-- The direction of the entry's first access (R62). -/
def Entry.firstDirection (e : Entry) : Direction := if e.writesFirst then .write else .read

/-- The blocks at some positions of the entry's range, each with its 32 bytes of the data field, in column order. -/
def Entry.writesAt (e : Entry) (positions : List Nat) : List (Nat × List Byte) :=
  positions.map fun p => (e.first + p, e.data.getD p [])

/-- The blocks a first access writes: the whole range of a WRITE or FILL (R73, R114), the full blocks of a MASKED-WRITE with no
partial block (R76). -/
def Entry.firstWrites (e : Entry) : List (Nat × List Byte) :=
  match e.kind with
  | .maskedWrite masks => e.writesAt (positionsOf fullMask masks)
  | _ => e.writesAt (List.range e.count)

/-- The access a first grant hands to the Array (R11, R12, R62). -/
def firstFlight (now : Time) (slot : Nat) (e : Entry) : Flight :=
  if e.writesFirst then
    ⟨some slot, bankOf e.first, .write, e.first, e.count, e.firstWrites, now + writeTransfer e.firstWrites.length⟩
  else ⟨some slot, bankOf e.first, .read, e.first, e.count, [], now + readTransfer e.count⟩

/-- The access a write-back grant hands to the Array: the write-back set with the merged data (R63). -/
def writeBackFlight (now : Time) (slot : Nat) (e : Entry) : Flight :=
  ⟨some slot, bankOf e.first, .write, e.first, e.count, e.writesAt e.writeBack, now + writeTransfer e.writeBack.length⟩

/-! ### What a read hands on -/

/-- A block as a read hands it on: its classification and its data, zero bytes for a POISONED block (R15, R69). -/
structure ReadBlock where
  cls : ReadClass
  data : List Byte
  deriving DecidableEq, Repr

/-- A block as a read finds it in the event in which the transfer ends (R15). -/
def State.readBlock (s : State) (block : Nat) : ReadBlock :=
  let cls := classify (s.condition block)
  ⟨cls, if cls = .poisoned then List.replicate 32 0 else s.blockData block⟩

/-- The blocks of a range, in column order (R11). -/
def State.readRange (s : State) (first count : Nat) : List ReadBlock :=
  (List.range count).map fun i => s.readBlock (first + i)

/-- How many blocks were classified CORRECTED (R17). -/
def correctedIn (blocks : List ReadBlock) : Nat := (blocks.filter fun b => decide (b.cls = .corrected)).length

/-- The bank's corrected count rises by the CORRECTED blocks, staying at 65,535 (R17). -/
def State.countCorrected (s : State) (b : Fin 16) (n : Nat) : State :=
  let r := s.bank b
  s.setBank b { r with corrected := min 65535 (r.corrected + n) }

/-! ### The Update Unit (R67) -/

/-- The overall status of a READ or SCRUB (R69). -/
def rangeStatus (classes : List ReadClass) : ReadClass :=
  if classes.any (· = .poisoned) then .poisoned else if classes.any (· = .corrected) then .corrected else .ok

/-- The enabled lanes from the request, the other lanes from the block as read (R77). -/
def mergeBlock (mask : BitVec 32) (request read : List Byte) : List Byte :=
  (List.range 32).map fun i => if mask.getLsbD i then request.getD i 0 else read.getD i 0

/-- The block built for a position of a MASKED-WRITE (R77): for a partial block the merge; a full block keeps the request's
bytes. An untouched or skipped block is not written, and its bytes carry no meaning. -/
def builtBlock (mask : BitVec 32) (request : List Byte) (read : ReadBlock) : List Byte :=
  if partialMask mask && decide (read.cls ≠ .poisoned) then mergeBlock mask request read.data else request

/-- A position of a MASKED-WRITE is in the write-back set (R77). -/
def maskedWritten (mask : BitVec 32) (cls : ReadClass) : Bool :=
  fullMask mask || (partialMask mask && decide (cls ≠ .poisoned))

/-- The overall status of a MASKED-WRITE (R79). -/
def maskedStatus (masks : List (BitVec 32)) (classes : List ReadClass) : ReadClass :=
  if !(skippedSet masks classes).isEmpty then .poisoned
  else if (masks.zip classes).any fun x => partialMask x.1 && decide (x.2 = .corrected) then .corrected
  else .ok

/-- The new value of an ATOMIC (R81). -/
def atomicNew (op : AtomicOp) (old operand1 operand2 : BitVec 64) : BitVec 64 :=
  match op with
  | .fetchAdd => old + operand1
  | .swap => operand1
  | .compareSwap => if old = operand1 then operand2 else old
  | .fetchAnd => old &&& operand1
  | .fetchOr => old ||| operand1

/-- The operand in memory: the 8 bytes at the offset, least significant first (R80). -/
def atomicOld (data : List Byte) (offset : Nat) : BitVec 64 := BitVec.ofNat 64 (field data offset 8)

/-- The block with the 8 bytes at the offset replaced (R81). -/
def atomicBlock (data : List Byte) (offset : Nat) (new : BitVec 64) : List Byte :=
  data.take offset ++ leBytes 8 new.toNat ++ data.drop (offset + 8)

/-- An ATOMIC stores nothing: a failed COMPARE-SWAP of a block classified OK (R82). -/
def atomicStoresNothing (op : AtomicOp) (old operand1 : BitVec 64) (cls : ReadClass) : Bool :=
  decide (op = .compareSwap ∧ old ≠ operand1 ∧ cls = .ok)

/-- The record of an ATOMIC after its read (R80 to R83). -/
def Entry.afterAtomicRead (e : Entry) (op : AtomicOp) (offset : Nat) (o1 o2 : BitVec 64) (b : ReadBlock) : Entry :=
  if b.cls = .poisoned then { e with classes := [b.cls], status := some .poisoned, writeBack := [], oldValue := none }
  else
    let old := atomicOld b.data offset
    { e with
      classes := [b.cls]
      status := some b.cls
      data := [atomicBlock b.data offset (atomicNew op old o1 o2)]
      writeBack := if atomicStoresNothing op old o1 b.cls then [] else [0]
      oldValue := some old }

/-- The record of an entry after its read transfer: classification, data, write-back set, status and old value (R67). -/
def Entry.afterRead (e : Entry) (correctOnRead : Bool) (blocks : List ReadBlock) : Entry :=
  let classes := blocks.map (·.cls)
  match e.kind with
  | .maskedWrite masks =>
    { e with
      classes := classes
      data := (List.range e.count).map fun i =>
        builtBlock (masks.getD i 0) (e.data.getD i []) (blocks.getD i ⟨.poisoned, []⟩)
      writeBack := positionsOf (fun x => maskedWritten x.1 x.2) (masks.zip classes)
      status := some (maskedStatus masks classes) }
  | .atomic op offset o1 o2 => e.afterAtomicRead op offset o1 o2 (blocks.getD 0 ⟨.poisoned, []⟩)
  | .scrub =>
    { e with
      classes := classes
      data := blocks.map (·.data)
      writeBack := positionsOf (· = .corrected) classes
      status := some (rangeStatus classes) }
  | .read | .write | .barrier | .fill =>
    { e with
      classes := classes
      data := blocks.map (·.data)
      writeBack := if correctOnRead then positionsOf (· = .corrected) classes else []
      status := some (rangeStatus classes) }

/-- The source under which an entry reports (R68, R110). -/
def Entry.source (e : Entry) : Source :=
  match e.kind with
  | .maskedWrite _ => .maskedWrite
  | .atomic .. => .atomic
  | .scrub => .scrub
  | .read | .write | .barrier | .fill => if e.owner.port? = some .b then .portBRead else .portARead

/-- The positions an entry reports, in column order (R68, R110): the skipped blocks of a MASKED-WRITE, every POISONED block
of the other kinds. -/
def Entry.reportedPositions (e : Entry) (classes : List ReadClass) : List Nat :=
  match e.kind with
  | .maskedWrite masks => skippedSet masks classes
  | _ => positionsOf (· = .poisoned) classes

/-! ### The Error Record Table -/

/-- A record of the table carries the number. -/
def carriesNumber (records : List ErrorRecord) (n : Nat) : Bool := records.any fun r => decide (r.number = n)

/-- The number after `n`, from 65,535 to 0 (R120). -/
def nextNumberAfter (n : Nat) : Nat := (n + 1) % 65536

/-- The first of `n`, `n` + 1, and on, that no record carries (R120): among 17 numbers there is one. -/
def freeNumberFrom (records : List ErrorRecord) : Nat → Nat → Nat
  | 0, n => n
  | fuel + 1, n => if carriesNumber records n then freeNumberFrom records fuel (nextNumberAfter n) else n

/-- An error record takes a report of its block (R119): the hit count rises, staying at 65,535, and the rewritten flag is
cleared. -/
def ErrorRecord.hit (r : ErrorRecord) : ErrorRecord := { r with hits := min 65535 (r.hits + 1), rewritten := false }

/-- A report creates a record at the tail (R120). -/
def ErrorTable.create (t : ErrorTable) (block : Nat) (source : Source) (time : BitVec 32) : ErrorTable :=
  let records := t.records ++ [⟨t.nextNumber, block, source, time, 1, false⟩]
  { t with records := records, nextNumber := freeNumberFrom records 17 (nextNumberAfter t.nextNumber) }

/-- The record that names a block. -/
def ErrorTable.naming (t : ErrorTable) (block : Nat) : Option ErrorRecord := t.records.find? fun r => r.block = block

/-- An UNCORRECTABLE notice is raised on both ports with the table as it stands after the report (R121). -/
def State.raiseUncorrectable (s : State) (block : Nat) (source : Source) (kind : ReportKind) (number : Nat) : State :=
  s.raiseBoth (.uncorrectable block source kind number s.errors.records.length s.errors.overflow)

/-- A report of a block is taken (R119, Table 6-5). -/
def State.takeReport (s : State) (source : Source) (block : Nat) : State :=
  match s.errors.naming block with
  | some r =>
    let records := s.errors.records.map fun x => if x.block = block then x.hit else x
    let t := { s with errors := { s.errors with records := records } }
    if r.rewritten then t.raiseUncorrectable block source .repeated r.number else t
  | none =>
    if s.errors.records.length < 16 then
      State.raiseUncorrectable { s with errors := s.errors.create block source s.power.timeBase } block source .new
        s.errors.nextNumber
    else
      State.raiseUncorrectable { s with errors := { s.errors with overflow := min 65535 (s.errors.overflow + 1) } } block
        source .notRecorded 0

/-- Written blocks mark the records that name them as rewritten (R122). -/
def State.markRewritten (s : State) (blocks : List Nat) : State :=
  { s with errors := { s.errors with
      records := s.errors.records.map fun r => if r.block ∈ blocks then { r with rewritten := true } else r } }

/-! ### The end of a transfer -/

/-- The column path as a transfer leaves it (R10). -/
def State.freePath (s : State) (d : Direction) : State :=
  { s with path := ⟨none, some d, some s.now⟩ }

/-- The read of an entry ends (R67): its record is completed, its blocks are reported, and it moves to IN-UPDATE, or to DONE if
it writes nothing back. -/
def State.entryRead (s : State) (slot : Nat) (e : Entry) (blocks : List ReadBlock) : State :=
  let e' := e.afterRead s.store.correctOnRead blocks
  let s := (e.reportedPositions e'.classes).foldl (fun s p => s.takeReport e.source (e.first + p)) s
  if e'.writeBack.isEmpty then s.entryDone slot e' else s.setEntry slot { e' with state := .inUpdate }

/-- A read transfer ends (R11): the bank and the path record it; in the run-down nobody is handed the blocks (R19). -/
def State.readEnds (s : State) (f : Flight) : State :=
  let s := s.at f.due
  let blocks := s.readRange f.first f.count
  let s := s.freePath .read
  let s := s.setBank f.bank { s.bank f.bank with lastReadEnd := some s.now }
  match f.slot with
  | none => s.settleRunDown
  | some slot =>
    let s := s.countCorrected f.bank (correctedIn blocks)
    match s.entry slot with
    | none => s
    | some e => s.entryRead slot e blocks

/-- The record of an entry as its write transfer ends (R37): a write-back leaves the result of the read, its set gone with
IN-UPDATE (R22); a single write is OK throughout (R73, R76); a FILL has no result (R22). -/
def Entry.afterWrite (e : Entry) : Entry :=
  if e.state = .inUpdate then { e with writeBack := [] }
  else
    match e.kind with
    | .fill => e
    | _ => { e with classes := List.replicate e.count .ok, status := some .ok }

/-- A write transfer ends (R12): its blocks take their contents and become GOOD, the records that name them are marked, the
bank and the path record it, and the entry, unless a reset has discarded it, becomes DONE. -/
def State.writeEnds (s : State) (f : Flight) : State :=
  let s := s.at f.due
  let s := (s.writeBlocks f.writes).markRewritten (f.writes.map (·.1))
  let s := s.freePath .write
  let s := s.setBank f.bank { s.bank f.bank with lastWriteEnd := some s.now }
  match f.slot with
  | none => s.settleRunDown
  | some slot =>
    match s.entry slot with
    | none => s
    | some e => s.entryDone slot e.afterWrite

end Sys2Proof.Machine
end

