-- ==== Sys2Proof/Machine/Requests.lean ====
section
/-! DEFINITION. The Management Unit: what each management request does when it is taken (R164 to R173 and the chapters that
own the state), the queue, and the end of every event that may leave requests to take. -/

namespace Sys2Proof.Machine

/-! ### Answers -/

/-- The request is answered with a failing status and let go (R159, R164). -/
def State.answerFail (s : State) (p : Port) (tag : Byte) (kind : Nat) (why : Reason) : State :=
  s.replyAndLetGo p (mgmtReplyFail tag kind why 0)

/-- The request is answered with status OK and let go (R159, R164). -/
def State.answerOk (s : State) (p : Port) (tag : Byte) (kind : Nat) (block extra : BitVec 32) (payload : List Byte) : State :=
  s.replyAndLetGo p (mgmtReplyOk tag kind block extra payload)

/-! ### The configuration store (R167 to R169) -/

/-- The bits of a notice mask that are held set: FILL-DONE and RETAIN-ENTERING (R167). -/
def heldMaskBits : BitVec 32 := 0x28

/-- The value of a key (Table 10-1, coded by R157); none for a code that is no key. -/
def Store.value (c : Store) (key : Nat) : Option (BitVec 32) :=
  match key with
  | 1 => some (BitVec.ofNat 32 c.idleClose)
  | 2 => some (BitVec.ofNat 32 c.hitLimit)
  | 3 => some (BitVec.ofNat 32 c.napIdle)
  | 4 => some (BitVec.ofNat 32 c.scrubPeriod)
  | 5 => some (if c.correctOnRead then 1 else 0)
  | 6 => some c.noticeMaskA
  | 7 => some c.noticeMaskB
  | 8 => some (BitVec.ofNat 32 (rightsCode c.defaultRightsA))
  | 9 => some (BitVec.ofNat 32 (rightsCode c.defaultRightsB))
  | _ => none

/-- The store with a value stored for a key, if the value lies in the key's range (Table 10-1, R169). -/
def Store.store (c : Store) (key : Nat) (v : BitVec 32) : Option Store :=
  let n := v.toNat
  match key with
  | 1 => if n ≤ 1000 ∧ n % 4 = 0 then some { c with idleClose := n } else none
  | 2 => if 1 ≤ n ∧ n ≤ 64 then some { c with hitLimit := n } else none
  | 3 => if n ≤ 1000 then some { c with napIdle := n } else none
  | 4 => if n ≤ 168 then some { c with scrubPeriod := n } else none
  | 5 => if n ≤ 1 then some { c with correctOnRead := decide (n = 1) } else none
  | 6 => if n < 64 then some { c with noticeMaskA := v ||| heldMaskBits } else none
  | 7 => if n < 64 then some { c with noticeMaskB := v ||| heldMaskBits } else none
  | 8 => (rightsOf n).map fun r => { c with defaultRightsA := r }
  | 9 => (rightsOf n).map fun r => { c with defaultRightsB := r }
  | _ => none

/-- A code that is a key (R168). -/
def isKey (key : Nat) : Bool := decide (1 ≤ key ∧ key ≤ 9)

/-- The keys only the owner port may set (R126). -/
def isOwnerKey (key : Nat) : Bool := decide (key = 8 ∨ key = 9)

/-- A BAD-VALUE reply to CONFIG-GET or CONFIG-SET carries the key code received (R159). -/
def State.answerBadKey (s : State) (p : Port) (tag : Byte) (kind : Nat) (key : BitVec 32) : State :=
  s.replyAndLetGo p (mgmtReplyFail tag kind .badValue key)

/-- The key's value as it stands, as a reply carries it (Table 9-7). -/
def State.answerKey (s : State) (p : Port) (tag : Byte) (kind : Nat) (key : BitVec 32) : State :=
  s.answerOk p tag kind 0 key (leBytes 4 ((s.store.value key.toNat).getD 0).toNat)

/-- CONFIG-GET is taken (R168). -/
def takeConfigGet (p : Port) (tag : Byte) (key : BitVec 32) (s : State) : State :=
  if s.power.state = .entering then s.answerFail p tag 16 .power
  else if isKey key.toNat = false then s.answerBadKey p tag 16 key
  else s.answerKey p tag 16 key

/-- The step timer started afresh for one interval, or stopped with the period at 0, and the pending step cleared (R107). -/
def State.startSteps (s : State) : State :=
  { s with scrub := { s.scrub with
      stepDue := if s.store.scrubPeriod = 0 then none else some (s.now + stepInterval s.store.scrubPeriod)
      pendingStep := false } }

/-- What a set key does at once (Table 10-2): NAP-IDLE stops a running idle timer, which `State.settle` starts afresh with the
new value, and at 0 clears nap due (R178); SCRUB-PERIOD starts the step timer afresh in ACTIVE and NAP (R107). -/
def State.applyKey (s : State) (key : Nat) : State :=
  if key = 3 then
    { s with power := { s.power with idleDue := none, napDue := s.power.napDue && decide (s.store.napIdle ≠ 0) } }
  else if key = 4 ∧ (s.power.state = .active ∨ s.power.state = .nap) then s.startSteps
  else s

/-- CONFIG-SET is taken (R169). -/
def takeConfigSet (p : Port) (tag : Byte) (key value : BitVec 32) (s : State) : State :=
  if s.power.state = .entering then s.answerFail p tag 17 .power
  else if isKey key.toNat = false then s.answerBadKey p tag 17 key
  else if isOwnerKey key.toNat = true ∧ p ≠ s.owner then s.answerFail p tag 17 .notOwner
  else
    match s.store.store key.toNat value with
    | none => s.answerBadKey p tag 17 key
    | some c => (State.applyKey { s with store := c } key.toNat).answerKey p tag 17 key

/-! ### STATUS (R170, R171) -/

/-- One byte. -/
def byteOf (n : Nat) : Byte := BitVec.ofNat 8 n

/-- 1 for true, 0 for false. -/
def flagOf (b : Bool) : Nat := if b then 1 else 0

/-- Offsets 0 to 7: power state, links, votes, owner, entries held. -/
def State.statusHead (s : State) : List Byte :=
  [byteOf (powerCode s.power.state), byteOf (linkCode (s.link .a).state), byteOf (linkCode (s.link .b).state),
   byteOf (flagOf s.portA.vote + 2 * flagOf s.portB.vote), byteOf (portCode s.owner),
   byteOf (s.heldByPort .a), byteOf (s.heldByPort .b), byteOf s.heldByMaintenance]

/-- Offsets 8 to 33: refresh debts, missed refreshes, temperature, calibration. -/
def State.statusMaintenance (s : State) : List Byte :=
  (allBanks.map fun b => byteOf (s.bank b).debt) ++ leBytes 2 s.maint.missed ++
    [byteOf (flagOf s.maint.hot), BitVec.ofInt 8 s.maint.lastTemp, byteOf (calCode s.maint.cal),
     byteOf (followOnCode s.maint.followOn)] ++
    leBytes 4 (s.power.timeBase - s.maint.lastCompletion).toNat

/-- Offsets 34 to 68: corrected counts, error records, overflow. -/
def State.statusErrors (s : State) : List Byte :=
  (allBanks.flatMap fun b => leBytes 2 (s.bank b).corrected) ++ [byteOf s.errors.records.length] ++
    leBytes 2 s.errors.overflow

/-- Offsets 69 to 82: the fill. -/
def State.statusFill (s : State) : List Byte :=
  match s.fill with
  | none => List.replicate 14 0
  | some f =>
    [byteOf (if f.aborting then 2 else 1), byteOf (portCode f.port)] ++ leBytes 4 f.first ++ leBytes 4 f.count ++
      leBytes 4 f.cursor

/-- The 100-byte report (Table 10-3). -/
def State.statusReport (s : State) (cleared : Bool) : List Byte :=
  s.statusHead ++ s.statusMaintenance ++ s.statusErrors ++ s.statusFill ++ leBytes 4 s.scrub.cursor ++
    leBytes 2 s.scrub.passes ++ leBytes 4 s.power.napCount ++ leBytes 4 s.power.timeBase.toNat ++
    [byteOf (flagOf cleared), 0, 0]

/-- The clear option (R171). -/
def State.clearCounts (s : State) : State :=
  State.mapBanks
    { s with
      maint := { s.maint with missed := 0 }
      errors := { s.errors with overflow := 0 }
      power := { s.power with napCount := 0 } }
    fun _ r => { r with corrected := 0 }

/-- STATUS is taken (R170, R171). -/
def takeStatus (p : Port) (tag : Byte) (clear : Bool) (s : State) : State :=
  let report := s.statusReport clear
  (if clear then s.clearCounts else s).answerOk p tag 18 0 0 report

/-! ### Regions (R126 to R131) -/

/-- A region slot as a reply carries it (Table 9-7); a disabled one with zeros. -/
def State.answerSlot (s : State) (p : Port) (tag : Byte) (kind : Nat) (slot : Fin 8) : State :=
  match s.regions[slot] with
  | some r =>
    s.answerOk p tag kind (BitVec.ofNat 32 r.first) (BitVec.ofNat 32 r.count)
      [1, byteOf (rightsCode r.rightsA), byteOf (rightsCode r.rightsB), byteOf slot.val]
  | none => s.answerOk p tag kind 0 0 [0, 0, 0, byteOf slot.val]

/-- REGION-GET is taken (R131). -/
def takeRegionGet (p : Port) (tag slot : Byte) (s : State) : State :=
  if s.power.state = .entering then s.answerFail p tag 19 .power
  else if h : slot.toNat < 8 then s.answerSlot p tag 19 ⟨slot.toNat, h⟩
  else s.answerFail p tag 19 .badValue

/-- The contents a REGION-SET gives its slot: none where an operand is out of range (R130); a clear enable flag disables. -/
def regionOperands (first count : BitVec 32) (enable rightsA rightsB : Byte) : Option (Option Region) :=
  if enable = 0 then some none
  else if count.toNat = 0 ∨ 16384 < count.toNat ∨ 16384 < first.toNat + count.toNat then none
  else
    match rightsOf rightsA.toNat, rightsOf rightsB.toNat with
    | some a, some b => some (some ⟨first.toNat, count.toNat, a, b⟩)
    | _, _ => none

/-- REGION-SET is taken (R126, R130). -/
def takeRegionSet (p : Port) (tag slot : Byte) (first count : BitVec 32) (enable rightsA rightsB : Byte) (s : State) : State :=
  if s.power.state = .entering then s.answerFail p tag 20 .power
  else if p ≠ s.owner then s.answerFail p tag 20 .notOwner
  else if h : slot.toNat < 8 then
    match regionOperands first count enable rightsA rightsB with
    | none => s.answerFail p tag 20 .badValue
    | some r =>
      State.answerSlot { s with regions := s.regions.set slot.toNat r h } p tag 20 ⟨slot.toNat, h⟩
  else s.answerFail p tag 20 .badValue

/-! ### Error records (R123, R124) -/

/-- ERROR-FETCH is taken (R123). -/
def takeErrorFetch (p : Port) (tag : Byte) (s : State) : State :=
  if s.power.state = .entering then s.answerFail p tag 21 .power
  else
    match s.errors.records with
    | [] => s.replyAndLetGo p (mgmtReplyFail tag 21 .empty (BitVec.ofNat 32 s.errors.overflow))
    | r :: _ =>
      s.answerOk p tag 21 (BitVec.ofNat 32 r.block)
        (BitVec.ofNat 32 (r.number + 65536 * sourceCode r.source + 16777216 * flagOf r.rewritten))
        (leBytes 4 r.firstSeen.toNat ++ leBytes 2 r.hits ++ leBytes 2 s.errors.overflow ++
          [byteOf s.errors.records.length, 0])

/-- ERROR-CLEAR is taken (R124). -/
def takeErrorClear (p : Port) (tag : Byte) (number : BitVec 32) (s : State) : State :=
  if s.power.state = .entering then s.answerFail p tag 22 .power
  else if carriesNumber s.errors.records number.toNat then
    let left := s.errors.records.filter fun r => r.number ≠ number.toNat
    State.answerOk { s with errors := { s.errors with records := left } } p tag 22 number (BitVec.ofNat 32 left.length) []
  else s.answerFail p tag 22 .notFound

/-! ### Fill (R111, R112, R116) -/

/-- The range of a FILL-START is badly formed (Table 6-3, check 2). -/
def badFillRange (first count : Nat) : Bool :=
  decide (first % 8 ≠ 0 ∨ count % 8 ≠ 0 ∨ count < 8 ∨ capacity < first + count)

/-- The port may write every granule of a range (Table 6-3, check 4). -/
def State.mayFill (s : State) (p : Port) (first count : Nat) : Bool :=
  (List.range (granuleOf (first + count - 1) - granuleOf first + 1)).all fun i =>
    decide (s.rightsOver p (granuleOf first + i) = .readWrite)

/-- A FILL-START is accepted (R112): age, record, first entries, the vote removed, the reply. -/
def State.acceptFill (s : State) (p : Port) (tag : Byte) (first count : BitVec 32) (pattern : BitVec 64) : State :=
  let f : Fill := ⟨p, first.toNat, count.toNat, pattern, s.ageCounter, first.toNat, 0, false, none⟩
  let s := (State.createFillEntries { s.takeAge with fill := some f }).reevaluate
  (s.removeVote p).answerOk p tag 23 first count []

/-- FILL-START is taken (R111). -/
def takeFillStart (p : Port) (tag : Byte) (first count : BitVec 32) (pattern : BitVec 64) (s : State) : State :=
  if s.power.state = .entering then s.answerFail p tag 23 .power
  else if badFillRange first.toNat count.toNat then s.answerFail p tag 23 .badValue
  else if s.fill.isSome then s.answerFail p tag 23 .busy
  else if s.mayFill p first.toNat count.toNat = false then s.answerFail p tag 23 .accessDenied
  else s.acceptFill p tag first count pattern

/-- FILL-ABORT is taken (R116): on a RUNNING fill it stays held until the fill's last entry is freed. -/
def takeFillAbort (p : Port) (tag : Byte) (s : State) : State :=
  if s.power.state = .entering then s.answerFail p tag 24 .power
  else
    match s.fill with
    | none => s.answerFail p tag 24 .notFound
    | some f =>
      if f.aborting then s.answerFail p tag 24 .busy
      else { s with fill := some { f with aborting := true, abortReply := some (p, tag) } }

/-! ### Votes, calibration, restart -/

/-- RETAIN-VOTE is taken (R180). -/
def takeRetainVote (p : Port) (tag : Byte) (s : State) : State :=
  if s.power.state = .entering then s.answerFail p tag 25 .power
  else if s.fill.isSome then s.answerFail p tag 25 .busy
  else
    (if (s.port p).vote then s else (s.setVote p true).raiseNotice (otherPort p) (.retainVote true)).answerOk p tag 25 0 0 []

/-- RETAIN-WITHDRAW is taken (R180). -/
def takeRetainWithdraw (p : Port) (tag : Byte) (s : State) : State :=
  if s.power.state = .entering then s.answerFail p tag 26 .power else (s.removeVote p).answerOk p tag 26 0 0 []

/-- CALIBRATE is taken (R102). -/
def takeCalibrate (p : Port) (tag : Byte) (s : State) : State :=
  if s.power.state = .entering then s.answerFail p tag 27 .power else (s.calTrigger .long).answerOk p tag 27 0 0 []

/-- RESTART is taken (R172): the unit is stopped from this event on. -/
def takeRestart (p : Port) (tag : Byte) (s : State) : State :=
  if s.power.state = .entering then s.answerFail p tag 28 .power
  else if p ≠ s.owner then s.answerFail p tag 28 .notOwner
  else State.answerOk { s with mgmt := { s.mgmt with unit := .stopped p } } p tag 28 0 0 []

/-! ### The queue (R164) -/

/-- A request is taken (R165). -/
def takeRequest (q : HeldRequest) (s : State) : State :=
  match q.request with
  | .configGet key => takeConfigGet q.port q.tag key s
  | .configSet key value => takeConfigSet q.port q.tag key value s
  | .status clear => takeStatus q.port q.tag clear s
  | .regionGet slot => takeRegionGet q.port q.tag slot s
  | .regionSet slot first count enable a b => takeRegionSet q.port q.tag slot first count enable a b s
  | .errorFetch => takeErrorFetch q.port q.tag s
  | .errorClear number => takeErrorClear q.port q.tag number s
  | .fillStart first count pattern => takeFillStart q.port q.tag first count pattern s
  | .fillAbort => takeFillAbort q.port q.tag s
  | .retainVote => takeRetainVote q.port q.tag s
  | .retainWithdraw => takeRetainWithdraw q.port q.tag s
  | .calibrate => takeCalibrate q.port q.tag s
  | .restart => takeRestart q.port q.tag s

/-- A free unit takes the waiting requests one after the other, head first (R164), up to a bound. -/
def drainFor : Nat → State → State
  | 0, s => s
  | n + 1, s =>
    match s.mgmt.unit, s.mgmt.queue with
    | .free, q :: rest => drainFor n (takeRequest q { s with mgmt := { s.mgmt with queue := rest } })
    | _, _ => s

/-- A free unit takes every waiting request (R164): a taking adds none, so the queue's length bounds them (log 9). -/
def State.drain (s : State) : State := drainFor s.mgmt.queue.length s

/-- The end of an event that may have freed the Management Unit: it takes the waiting requests, and the timers that follow
conditions settle. -/
def State.finish (s : State) : State := s.drain.settle

/-- A request joins the tail of the queue (R163, R164). -/
def State.enqueue (s : State) (p : Port) (tag : Byte) (r : MgmtRequest) : State :=
  { s with mgmt := { s.mgmt with queue := s.mgmt.queue ++ [⟨p, tag, r⟩] } }

end Sys2Proof.Machine
end

