-- ==== Sys2Proof/Machine/Links.lean ====
section
/-! DEFINITION. The frames a processor sends (chapter 8): acknowledgements (R141, R142), acceptance and loss (R137, R138), the
Message Decoder (R161 to R163), training (R135, R136), and the meanings of MSG, ACK, REPLAY_REQ, TRAIN, LINK_DOWN_FRAME,
BAD_FRAME and of the management requests' rows. -/

namespace Sys2Proof.Machine

/-- The port takes frames of a session: its link is ACTIVE, and no RESTART is due, whose effect falls in the very event of the
acknowledgement, so that no frame comes between (R173; log 10). -/
def State.receives (s : State) (p : Port) : Bool := s.linkActive p && decide (s.mgmt.unit ≠ .restartDue)

/-! ### Acknowledgements -/

/-- The message is the reply to a RESTART that passed its checks (R152, R172). -/
def Message.isRestartReply (m : Message) : Bool := decide (m.kind = 37 ∧ m.option = 28 ∧ m.status = 0)

/-- The RESTART a stopped unit waits for takes effect next when the frame carrying its reply leaves the buffer (R152, R172,
R173; log 10). -/
def State.noteRestart (s : State) (p : Port) (dropped : List BufferedFrame) : State :=
  if s.mgmt.unit = .stopped p ∧ dropped.any (fun f => f.message.isRestartReply) = true then
    { s with mgmt := { s.mgmt with unit := .restartDue } }
  else s

/-- The replay timer as the buffer stands: started again for 20 µs if frames remain, stopped if none does (R141). -/
def replayTimerFor (now : Time) (buffer : List BufferedFrame) : Option Time :=
  if buffer.isEmpty then none else some (now + replayDelay)

/-- Where a resend position stands once frames have been removed: one that named a removed frame moves to the new oldest, or
is absent with the buffer empty (R141). -/
def movedResend (resend : Option Byte) (dropped kept : List BufferedFrame) : Option Byte :=
  match resend with
  | none => none
  | some r => if dropped.any (fun f => f.number = r) then kept.head?.map (·.number) else some r

/-- Acknowledgement progress by `n` frames, `n` at least 1 (R141). -/
def State.ackProgress (s : State) (p : Port) (n : Nat) : State :=
  let l := s.link p
  let kept := l.buffer.drop n
  (s.setLink p { l with
    buffer := kept
    retry := 0
    replayDue := replayTimerFor s.now kept
    resend := movedResend l.resend (l.buffer.take n) kept }).noteRestart p (l.buffer.take n)

/-- The acknowledgement of a good MSG or ACK frame is taken (R141). -/
def State.takeAck (s : State) (p : Port) (ackSeq : Byte) (ackValid : Bool) : State :=
  if ackValid then
    let l := s.link p
    let k := (l.next - 1 - ackSeq).toNat
    if k < l.buffer.length then s.ackProgress p (l.buffer.length - k)
    else if k < l.sentCount then s
    else s.linkDown p .badAck
  else s

/-! ### Loss and acceptance -/

/-- A loss is found (R138): one REPLAY-REQ, condition AWAITING-REPLAY, the timer started. -/
def State.findLoss (s : State) (p : Port) : State :=
  let s := s.sendReplayReq p
  s.setLink p { s.link p with awaitingReplay := true, replayRequestDue := some (s.now + replayDelay) }

/-- The receive condition returns to NORMAL and its timer stops (R138). -/
def Link.lossEnded (l : Link) : Link := { l with awaitingReplay := false, replayRequestDue := none }

/-- The credits outstanding of a class (R144). -/
def Link.outstanding (l : Link) : RequestClass → Nat
  | .memory => l.memOut
  | .management => l.mgmtOut

/-- A credit of a class is taken, if the message takes one (R144). -/
def Link.takeCredit (l : Link) : Option RequestClass → Link
  | none => l
  | some .memory => { l with memOut := l.memOut - 1 }
  | some .management => { l with mgmtOut := l.mgmtOut - 1 }

/-- The message is a request with no credit of its class outstanding (R144). -/
def Link.noCredit (l : Link) (cls : Option RequestClass) : Bool :=
  match cls with
  | none => false
  | some c => decide (l.outstanding c = 0)

/-- The link record after an acceptance (R137), the acknowledgement counted (R139): accepted-unacknowledged one more, and the
acknowledgement timer started when it rose from 0. -/
def Link.accepted (l : Link) (now : Time) (cls : Option RequestClass) : Link :=
  let l := l.takeCredit cls
  let l := if l.unacked = 0 then l.startAckTimer now else l
  { l.lossEnded with expected := l.expected + 1, retry := 0, ackValid := true, unacked := l.unacked + 1 }

/-- The frame is accepted (R137); at 16 accepted and unacknowledged an ACK frame is sent (R139). That frame is built before
the message has its own outcome in the same event: DESIGN CHOICE (log 31). -/
def State.acceptFrame (s : State) (p : Port) (cls : Option RequestClass) : State :=
  let s := s.setLink p ((s.link p).accepted s.now cls)
  if 16 ≤ (s.link p).unacked then s.sendAck p else s

/-- A message refused by the decoder, with its credit returned if one was taken (R161). -/
def State.refuseMessage (s : State) (p : Port) (h : BodyHead) (cls : Option RequestClass) (why : Reason) : State :=
  let s := s.placeRefused p h why
  match cls with
  | none => s
  | some c => s.returnCredit p c

/-- The Message Decoder's checks (R161): why it refuses, if it does. -/
def State.decoderRefusal (s : State) (p : Port) (h : BodyHead) (m : Parsed) : Option Reason :=
  match m with
  | .unknownKind | .malformed _ => some .badFormat
  | .memory _ | .management _ => if s.tagInUse p h.tag then some .tagInUse else none

/-- A message that passes is routed (R163): no outcome where the intake has none (log 16). -/
def State.route (s : State) (p : Port) (h : BodyHead) (m : Parsed) : Option State :=
  match m with
  | .memory r => s.intake p h r
  | .management r => some (s.enqueue p h.tag r)
  | .unknownKind | .malformed _ => some s

/-- The message of the expected frame is taken (R137, R144, R161, R163). -/
def State.acceptMessage (s : State) (p : Port) (h : BodyHead) (m : Parsed) : Option State :=
  if (s.link p).noCredit m.creditClass then some (s.linkDown p .creditViolation)
  else
    let s := s.acceptFrame p m.creditClass
    match s.decoderRefusal p h m with
    | some why => some (s.refuseMessage p h m.creditClass why)
    | none => s.route p h m

/-- `a` - `b`, modulo 256 (R134). -/
def ahead (a b : Byte) : Nat := (a - b).toNat

/-- A good MSG frame's number is taken against the expected number (R137). -/
def State.takeMessage (s : State) (p : Port) (seq : Byte) (body : List Byte) : Option State :=
  let l := s.link p
  if seq = l.expected then s.acceptMessage p (bodyHead body) (parseBody body)
  else if l.awaitingReplay then some s
  else if 1 ≤ ahead l.expected seq ∧ ahead l.expected seq ≤ 128 then some (s.sendAck p)
  else some (s.findLoss p)

/-- A bad frame is taken (R138): on an ACTIVE link in condition NORMAL a loss is found; anywhere else it is discarded. -/
def State.takeBadFrame (s : State) (p : Port) : State :=
  if s.receives p && !(s.link p).awaitingReplay then s.findLoss p else s

/-! ### Meanings: frames that carry messages or serve the link -/

/-- MSG (R137): on an ACTIVE link its acknowledgement is taken first; if that takes the link down, or makes a RESTART due
(log 10), the message is discarded. A body above 300 bytes makes the frame bad (R134). -/
def execMsg (p : Port) (seq ackSeq : Byte) (ackValid : Bool) (body : List Byte) (s : State) :
    Host.Outcome State Fault Refusal :=
  if s.receives p = false then .next s
  else if bodyFits body = false then .next (s.takeBadFrame p)
  else
    let t := s.takeAck p ackSeq ackValid
    if t.receives p = false then .next t.finish
    else
      match t.takeMessage p seq body with
      | none => .fault .noFreeSlot
      | some u => .next u.finish

/-- What a good ACK's sequence field says (R138): 1 to 127 ahead of the expected number it reveals a loss; equal to it, it ends
the wait for a replay. -/
def State.takeAckSeq (s : State) (p : Port) (seq : Byte) : State :=
  let l := s.link p
  if l.awaitingReplay then (if seq = l.expected then s.setLink p l.lossEnded else s)
  else if 1 ≤ ahead seq l.expected ∧ ahead seq l.expected ≤ 127 then s.findLoss p
  else s

/-- ACK (R138, R141). -/
def execAck (p : Port) (seq ackSeq : Byte) (ackValid : Bool) (s : State) : Host.Outcome State Fault Refusal :=
  if s.receives p = false then .next s
  else
    let t := s.takeAck p ackSeq ackValid
    .next (if t.receives p then t.takeAckSeq p seq else t).finish

/-- The number of the oldest buffered frame, or the next number with the buffer empty (R142). -/
def Link.oldest (l : Link) : Byte :=
  match l.buffer with
  | [] => l.next
  | f :: _ => f.number

/-- A REPLAY-REQ that names a frame from the oldest to the next is taken (R142). -/
def State.rewind (s : State) (p : Port) (number : Byte) : State :=
  let j := ahead number (s.link p).oldest
  let s := if 1 ≤ j then s.ackProgress p j else s
  let l := s.link p
  (s.setLink p { l with
    resend := if l.buffer.isEmpty then none else some number
    replayDue := replayTimerFor s.now l.buffer }).retryAttempt p

/-- REPLAY_REQ (R142). -/
def execReplayReq (p : Port) (number : Byte) (s : State) : Host.Outcome State Fault Refusal :=
  if s.receives p = false then .next s
  else if ahead number (s.link p).oldest ≤ (s.link p).buffer.length then .next (s.rewind p number).finish
  else .next (s.linkDown p .badAck).finish

/-- LINK_DOWN_FRAME (R149): its body is disregarded; on a link that is not ACTIVE it is discarded. -/
def execLinkDownFrame (p : Port) (_reason : Byte) (s : State) : Host.Outcome State Fault Refusal :=
  if s.receives p = false then .next s else .next (s.linkDown p .hostClose).finish

/-- BAD_FRAME (R138). -/
def execBadFrame (p : Port) (s : State) : Host.Outcome State Fault Refusal := .next (s.takeBadFrame p)

/-! ### Training (R135, R136) -/

/-- The TRAIN-REPLY body (Table 8-4), credits as given. -/
def State.trainReplyBody (s : State) (p : Port) (accepted : Bool) (mem mgmt : Nat) (power : PowerState) : List Byte :=
  [byteOf (flagOf accepted), byteOf (portCode p), byteOf (flagOf (decide (s.owner = p))), 1,
   byteOf (if accepted then mem else 0), byteOf (if accepted then mgmt else 0)] ++
    leBytes 4 capacity ++ leBytes 2 1016 ++ [1, byteOf (powerCode power)]

/-- The link record a session begins with (R136): cleared but for ACTIVE and the credits outstanding. -/
def sessionStart (mem mgmt : Nat) : Link := { Link.cleared with state := .active, memOut := mem, mgmtOut := mgmt }

/-- Memory credits a session grants (R136). -/
def State.memGrant (s : State) (p : Port) : Nat := 48 - s.heldByPort p

/-- Management credits a session grants (R136). -/
def State.mgmtGrant (s : State) (p : Port) : Nat := 4 - s.mgmtHeld p

/-- A TRAIN is answered (R136): revision 1 begins a session; any other leaves the link DOWN. The TRAIN-REPLY's
acknowledgement-valid bit is DESIGN CHOICE clear (log 30). -/
def State.answerTrain (s : State) (p : Port) (revision : Byte) : State :=
  let accepted := decide (revision = 1)
  let body := s.trainReplyBody p accepted (s.memGrant p) (s.mgmtGrant p) s.power.state
  (s.setLink p (if accepted then sessionStart (s.memGrant p) (s.mgmtGrant p) else Link.cleared)).emit p
    ⟨5, 0, 0, 0, 0, false, body⟩

/-- A PENDING link is answered as the power state becomes ACTIVE (R136). -/
def State.answerPending (s : State) (p : Port) : State :=
  match (s.link p).state, (s.link p).pendingRevision with
  | .pending, some r => s.answerTrain p r
  | _, _ => s

/-- The vote set is emptied with a withdrawal notice for each vote removed (R183). -/
def State.withdrawAll (s : State) : State := (s.removeVote .a).removeVote .b

/-- ENTERING is abandoned (R183) once a link has become ACTIVE in it. -/
def State.abandonEntering (s : State) : State :=
  let s := State.withdrawAll { s with power := { s.power with state := .active } }
  State.startSteps { s with maint := { s.maint with calTimerDue := some (s.now + calibrationPeriod) } }

/-- A TRAIN answered at once (R135), with what it does in ENTERING (R183). -/
def State.trainNow (s : State) (p : Port) (revision : Byte) : State :=
  let s := s.answerTrain p revision
  if s.power.state = .entering ∧ s.linkActive p = true then s.abandonEntering else s

/-- A link becomes PENDING with a revision (R135). -/
def State.becomePending (s : State) (p : Port) (revision : Byte) : State :=
  s.setLink p { s.link p with state := .pending, pendingRevision := some revision }

/-- Wake begins (R184): both links DOWN, the time base 0 and held, the long waking trigger. -/
def State.wake (s : State) (p : Port) (revision : Byte) : State :=
  let s := (s.setLink .a Link.cleared).setLink .b Link.cleared
  let s := (s.setVote .a false).setVote .b false
  let s := { s with power := { s.power with state := .waking, timeBase := 0, tickDue := none } }
  (s.becomePending p revision).calTrigger .long

/-- TRAIN (R135, Table 8-3). -/
def execTrain (p : Port) (revision : Byte) (s : State) : Host.Outcome State Fault Refusal :=
  if s.mgmt.unit = .restartDue then .next s
  else match s.power.state, (s.link p).state with
  | .starting, .down | .starting, .pending | .waking, .down | .waking, .pending => .next (s.becomePending p revision)
  | .retain, .sleep => .next (s.wake p revision).settle
  | .active, .down | .nap, .down | .entering, .down => .next (s.trainNow p revision).finish
  | .active, .active | .nap, .active | .entering, .active =>
    .next (((s.linkDown p .hostRetrain).drain).trainNow p revision).finish
  | _, _ => .next s

/-! ### Meanings: the rows of the management requests (R164; log 8) -/

/-- A management request's frame arrives on a port: the processor's next MSG frame in sequence, carrying no acknowledgement,
is accepted and its request joins the queue, to be taken at once by a free unit (R137, R163, R164; log 8). On a link that
is not ACTIVE it is discarded. The fault of `State.acceptMessage` is the intake's alone; a management request meets none. -/
def State.requestArrives (s : State) (p : Port) (tag : Byte) (block : BitVec 32) (r : MgmtRequest) :
    Host.Outcome State Fault Refusal :=
  if s.receives p = false then .next s
  else
    match s.acceptMessage p ⟨byteOf (mgmtKindCode r), tag, block⟩ (.management r) with
    | none => .fault .noFreeSlot
    | some t => .next t.finish

/-- CONFIG_GET (R168), taken by `takeConfigGet`. -/
def execConfigGet (p : Port) (tag : Byte) (key : BitVec 32) (s : State) : Host.Outcome State Fault Refusal :=
  s.requestArrives p tag 0 (.configGet key)

/-- CONFIG_SET (R169), taken by `takeConfigSet`. -/
def execConfigSet (p : Port) (tag : Byte) (key value : BitVec 32) (s : State) : Host.Outcome State Fault Refusal :=
  s.requestArrives p tag 0 (.configSet key value)

/-- STATUS (R170), taken by `takeStatus`. -/
def execStatus (p : Port) (tag : Byte) (clear : Bool) (s : State) : Host.Outcome State Fault Refusal :=
  s.requestArrives p tag 0 (.status clear)

/-- REGION_GET (R131), taken by `takeRegionGet`. -/
def execRegionGet (p : Port) (tag slot : Byte) (s : State) : Host.Outcome State Fault Refusal :=
  s.requestArrives p tag 0 (.regionGet slot)

/-- REGION_SET (R130), taken by `takeRegionSet`. -/
def execRegionSet (p : Port) (tag slot : Byte) (first count : BitVec 32) (enable rightsA rightsB : Byte) (s : State) :
    Host.Outcome State Fault Refusal :=
  s.requestArrives p tag first (.regionSet slot first count enable rightsA rightsB)

/-- ERROR_FETCH (R123), taken by `takeErrorFetch`. -/
def execErrorFetch (p : Port) (tag : Byte) (s : State) : Host.Outcome State Fault Refusal :=
  s.requestArrives p tag 0 .errorFetch

/-- ERROR_CLEAR (R124), taken by `takeErrorClear`. -/
def execErrorClear (p : Port) (tag : Byte) (number : BitVec 32) (s : State) : Host.Outcome State Fault Refusal :=
  s.requestArrives p tag number (.errorClear number)

/-- FILL_START (R111), taken by `takeFillStart`. -/
def execFillStart (p : Port) (tag : Byte) (first count : BitVec 32) (pattern : BitVec 64) (s : State) :
    Host.Outcome State Fault Refusal :=
  s.requestArrives p tag first (.fillStart first count pattern)

/-- FILL_ABORT (R116), taken by `takeFillAbort`. -/
def execFillAbort (p : Port) (tag : Byte) (s : State) : Host.Outcome State Fault Refusal :=
  s.requestArrives p tag 0 .fillAbort

/-- RETAIN_VOTE (R180), taken by `takeRetainVote`. -/
def execRetainVote (p : Port) (tag : Byte) (s : State) : Host.Outcome State Fault Refusal :=
  s.requestArrives p tag 0 .retainVote

/-- RETAIN_WITHDRAW (R180), taken by `takeRetainWithdraw`. -/
def execRetainWithdraw (p : Port) (tag : Byte) (s : State) : Host.Outcome State Fault Refusal :=
  s.requestArrives p tag 0 .retainWithdraw

/-- CALIBRATE (R102), taken by `takeCalibrate`. -/
def execCalibrate (p : Port) (tag : Byte) (s : State) : Host.Outcome State Fault Refusal :=
  s.requestArrives p tag 0 .calibrate

/-- RESTART (R172), taken by `takeRestart`. -/
def execRestart (p : Port) (tag : Byte) (s : State) : Host.Outcome State Fault Refusal :=
  s.requestArrives p tag 0 .restart

end Sys2Proof.Machine
end

