-- ==== Sys2Proof/Machine/Transmit.lean ====
section
/-! DEFINITION. The transmit side of a port link: replies and notices as messages (R158 to R160), the outgoing arbiter (R147),
resending (R140), and the meanings of the link timers (R138, R139, R143), OUTGOING_ARBITER_TAKE and FRAME_RESEND. -/

namespace Sys2Proof.Machine

/-! ### Messages the part builds -/

/-- Eight zero bytes stand for an absent old value (R83). -/
def oldValueBytes (v : Option (BitVec 64)) : List Byte := leBytes 8 (v.getD 0).toNat

/-- The skipped set of an entry's WRITE-DONE (R79, R158): empty but for a MASKED-WRITE. -/
def Entry.skipped (e : Entry) : List Nat :=
  match e.kind with
  | .maskedWrite masks => skippedSet masks e.classes
  | _ => []

/-- The reply's kind code (Table 9-2). -/
def Entry.replyKind (e : Entry) : Nat :=
  match e.kind with
  | .read => 32
  | .write | .maskedWrite _ => 33
  | .atomic .. => 34
  | .barrier | .scrub | .fill => 35

/-- The reply's extra field (Table 9-5). -/
def Entry.replyExtra (e : Entry) : Nat :=
  match e.kind with
  | .read => positionByte (positionsOf (· = .corrected) e.classes) + 256 * positionByte (positionsOf (· = .poisoned) e.classes)
  | .write | .maskedWrite _ => positionByte e.skipped
  | .atomic op offset _ _ => atomicOpCode op + 256 * offset
  | .barrier | .scrub | .fill => 0

/-- The reply's payload (Table 9-5). -/
def Entry.replyPayload (e : Entry) : List Byte :=
  match e.kind with
  | .read => e.data.flatten
  | .atomic .. => oldValueBytes e.oldValue
  | .write | .maskedWrite _ | .barrier | .scrub | .fill => []

/-- The tag a port entry carries (R22). -/
def Owner.tag : Owner → Byte
  | .port _ tag _ _ => tag
  | .maintenance => 0

/-- The reply built from an entry's record (R158); BARRIER-DONE has status OK, count 0 and block number 0. -/
def Entry.reply (e : Entry) : Message :=
  ⟨byteOf e.replyKind, e.owner.tag, byteOf e.count, byteOf (statusCode (e.status.getD .ok)), BitVec.ofNat 32 e.first,
   BitVec.ofNat 32 e.replyExtra, e.replyPayload⟩

/-- The code of what an UNCORRECTABLE notice says of the record (Table 9-8). -/
def reportCode : ReportKind → Nat
  | .new => 0
  | .repeated => 1
  | .notRecorded => 2

/-- The block number field of a NOTICE (Table 9-8). -/
def Notice.block : Notice → Nat
  | .uncorrectable block .. => block
  | .refreshMissed bank _ => bank.val
  | .fillDone first _ => first
  | .thermal .. | .retainVote _ | .retainEntering => 0

/-- The extra field of a NOTICE (Table 9-8). -/
def Notice.extra : Notice → Nat
  | .uncorrectable _ source kind number _ _ => sourceCode source + 256 * reportCode kind + 65536 * number
  | .refreshMissed _ missed => missed
  | .thermal reading entered => (BitVec.ofInt 8 reading).toNat + 256 * flagOf entered
  | .fillDone _ count => count
  | .retainVote present => flagOf present
  | .retainEntering => 0

/-- The payload of a NOTICE (Table 9-8). -/
def Notice.payload : Notice → List Byte
  | .uncorrectable _ _ _ _ records overflow => [byteOf records, 0] ++ leBytes 2 overflow
  | .refreshMissed .. | .thermal .. | .fillDone .. | .retainVote _ | .retainEntering => []

/-- The NOTICE built from a notice slot (R160). -/
def NoticeSlot.message (n : NoticeSlot) : Message :=
  ⟨38, 0, byteOf (noticeCode n.notice).val, byteOf n.alsoSince, BitVec.ofNat 32 n.notice.block,
   BitVec.ofNat 32 n.notice.extra, n.notice.payload⟩

/-! ### The outgoing arbiter (R147) -/

/-- The first full notice slot, in the order of the kinds (R147), which is that of their codes. -/
def Link.firstNotice (l : Link) : Option (Fin 6 × NoticeSlot) :=
  (List.finRange 6).findSome? fun i => (l.notices[i]).map fun n => (i, n)

/-- The arbiter may take (R147): ACTIVE, fewer than 32 frames buffered, no resend position. -/
def State.mayTake (s : State) (p : Port) : Bool :=
  s.linkActive p && decide ((s.link p).buffer.length < 32) && (s.link p).resend.isNone

/-- The head of the control queue is taken; it leaves the queue before the header is built (R147). -/
def State.takeControl (s : State) (p : Port) (m : Message) (rest : List Message) : State :=
  (s.setLink p { s.link p with control := rest }).sendMessage p m

/-- An entry reply is taken: built, its entry freed, holds worked out afresh, then the header built (R38, R39, R147). -/
def State.takeReply (s : State) (p : Port) (slot : Nat) (e : Entry) (rest : List Nat) : State :=
  let r := s.port p
  let s := s.setPort p { r with replies := rest }
  ((s.freeSlotOf slot).reevaluate).sendMessage p e.reply

/-- A notice is taken; its slot empties (R147). -/
def State.takeNotice (s : State) (p : Port) (i : Fin 6) (n : NoticeSlot) : State :=
  let l := s.link p
  (s.setLink p { l with notices := l.notices.set i none }).sendMessage p n.message

/-- The message the arbiter takes, if one waits (R147). -/
def State.arbiterTake (s : State) (p : Port) : State :=
  match (s.link p).control with
  | m :: rest => s.takeControl p m rest
  | [] =>
    match (s.port p).replies with
    | slot :: rest =>
      match s.entry slot with
      | some e => s.takeReply p slot e rest
      | none => s
    | [] =>
      match (s.link p).firstNotice with
      | some (i, n) => s.takeNotice p i n
      | none => s

/-- OUTGOING_ARBITER_TAKE (R147). -/
def execOutgoingArbiterTake (p : Port) (s : State) : Host.Outcome State Fault Refusal :=
  if s.mayTake p then .next (s.arbiterTake p).settle else .next s

/-! ### Resending (R140) -/

/-- The resend position after the frame of number `n` has been sent again: the next buffered frame's, or absent after the
newest. -/
def nextResend (buffer : List BufferedFrame) (n : Byte) : Option Byte :=
  match buffer with
  | [] => none
  | f :: rest => if f.number = n then rest.head?.map (·.number) else nextResend rest n

/-- A buffered frame is sent again with its own credit returns and the acknowledgement current now, which settles any owed
(R139, R140); the acknowledgement timer goes on for credits still pending (R145; log 14). -/
def State.sendAgain (s : State) (p : Port) (f : BufferedFrame) : State :=
  let l := s.link p
  (s.setLink p { l with
    unacked := 0
    ackDue := if l.memPend = 0 ∧ l.mgmtPend = 0 then none else l.ackDue
    resend := nextResend l.buffer f.number }).emit p
    ⟨1, f.number, l.expected - 1, f.memReturned, f.mgmtReturned, l.ackValid, f.message.bytes⟩

/-- FRAME_RESEND (R140). -/
def execFrameResend (p : Port) (s : State) : Host.Outcome State Fault Refusal :=
  match (s.link p).resend with
  | none => .next s
  | some n =>
    match (s.link p).buffer.find? fun f => f.number = n with
    | none => .next s
    | some f => .next (s.sendAgain p f)

/-! ### The link timers -/

/-- A further REPLAY-REQ at an expiry (R138), which counts as a retry attempt; the fourth takes the link down and is not sent
(R143). -/
def State.repeatReplayReq (s : State) (p : Port) : State :=
  let s := s.retryAttempt p
  if s.linkActive p then
    let s := s.sendReplayReq p
    s.setLink p { s.link p with replayRequestDue := some (s.now + replayDelay) }
  else s

/-- REPLAY_REQUEST_TIMER_EXPIRY (R138). -/
def execReplayRequestTimerExpiry (p : Port) (s : State) : Host.Outcome State Fault Refusal :=
  match (s.link p).replayRequestDue with
  | none => .next s
  | some due => .next ((s.at due).repeatReplayReq p).finish

/-- ACKNOWLEDGEMENT_TIMER_EXPIRY (R139): an ACK frame is sent. -/
def execAcknowledgementTimerExpiry (p : Port) (s : State) : Host.Outcome State Fault Refusal :=
  match (s.link p).ackDue with
  | none => .next s
  | some due => .next ((s.at due).sendAck p)

/-- The whole buffer is replayed (R143). -/
def State.replayAll (s : State) (p : Port) : State :=
  let l := s.link p
  (s.setLink p { l with resend := l.buffer.head?.map (·.number), replayDue := some (s.now + replayDelay) }).retryAttempt p

/-- REPLAY_TIMER_EXPIRY (R143). -/
def execReplayTimerExpiry (p : Port) (s : State) : Host.Outcome State Fault Refusal :=
  match (s.link p).replayDue with
  | none => .next s
  | some due => .next ((s.at due).replayAll p).finish

end Sys2Proof.Machine
end

