-- ==== Sys2Proof/Machine/Scheduling.lean ====
section
/-! DEFINITION. The meanings of the rows of the Array and the Bank Scheduler (chapters 1 and 3): openings, closes, refreshes,
timing minima, grants of the column path, and the ends of transfers. A row that nothing in the state awaits leaves the
state as it is (log 1); a row that completes something happens at its due time (log 2). -/

namespace Sys2Proof.Machine

/-! ### Openings -/

/-- The refresh position after a refresh is granted (R8). -/
def nextRefreshPos (p : Nat) : Nat := if p = 32760 then 0 else p + 8

/-- A bank as a row open begins (R5). -/
def Bank.startOpen (r : Bank) (now : Time) (row : Nat) : Bank :=
  { r with
    state := .opening
    openRow := some row
    minOpenDone := false
    lastReadEnd := none
    lastWriteEnd := none
    openDelayDue := some (now + openDelay)
    minOpenDue := some (now + minimumOpen) }

/-- A bank as a refresh begins (R8). -/
def Bank.startRefresh (r : Bank) (now : Time) : Bank :=
  { r with state := .refreshing, refreshPos := nextRefreshPos r.refreshPos, refreshDue := some (now + bankRefresh) }

/-- A bank takes the opening granted it (R53). -/
def Bank.startOpening (r : Bank) (now : Time) : Opening → Bank
  | .rowOpen row => r.startOpen now row
  | .refresh => r.startRefresh now

/-- An opening is granted to a bank (R48, R53). -/
def State.grantOpening (s : State) (b : Fin 16) (o : Opening) : State :=
  let s := s.setBank b ((s.bank b).startOpening s.now o)
  { s with window := s.liveWindow ++ [s.now], spacing := some s.now }

/-- OPENING_GRANT (R52). -/
def execOpeningGrant (s : State) : Host.Outcome State Fault Refusal :=
  match s.openingChoice with
  | some (b, o) => if s.openingMoment then .next (s.grantOpening b o).settle else .next s
  | none => .next s

/-- OPEN_DELAY_COMPLETE (R5). -/
def execOpenDelayComplete (b : Fin 16) (s : State) : Host.Outcome State Fault Refusal :=
  match (s.bank b).openDelayDue with
  | none => .next s
  | some due =>
    let s := s.at due
    .next (s.setBank b { s.bank b with state := .opened, openDelayDue := none }).settle

/-- MINIMUM_OPEN_COMPLETE (R5). -/
def execMinimumOpenComplete (b : Fin 16) (s : State) : Host.Outcome State Fault Refusal :=
  match (s.bank b).minOpenDue with
  | none => .next s
  | some due =>
    let s := s.at due
    .next (s.setBank b { s.bank b with minOpenDone := true, minOpenDue := none })

/-- The event of a minimum that began at a recorded time (R3): it changes nothing but what may begin from then on, which the
conditions read from the recorded time. -/
def State.minimumPasses (s : State) (began : Option Time) (span : Time) : State :=
  match began with
  | none => s
  | some t => s.at (t + span)

/-- READ_TO_CLOSE_COMPLETE (R6): `State.closeReady` reads the minimum from the last read end. -/
def execReadToCloseComplete (b : Fin 16) (s : State) : Host.Outcome State Fault Refusal :=
  .next (s.minimumPasses (s.bank b).lastReadEnd readToClose)

/-- WRITE_RECOVERY_COMPLETE (R6): `State.closeReady` reads the minimum from the last write end. -/
def execWriteRecoveryComplete (b : Fin 16) (s : State) : Host.Outcome State Fault Refusal :=
  .next (s.minimumPasses (s.bank b).lastWriteEnd writeRecovery)

/-- TURNAROUND_COMPLETE (R10): `State.pathAllows` reads the turnaround from the last transfer end. -/
def execTurnaroundComplete (s : State) : Host.Outcome State Fault Refusal :=
  match s.path.dir with
  | none => .next s
  | some d => .next (s.minimumPasses s.path.lastEnd (turnaround d))

/-- WINDOW_SLOT_EXPIRY (R48): the oldest start leaves the window record 36 ns after it. -/
def execWindowSlotExpiry (s : State) : Host.Outcome State Fault Refusal :=
  match s.window with
  | [] => .next s
  | t :: rest => .next (State.at { s with window := rest } (t + openingWindow))

/-- SPACING_COMPLETE (R49): `State.openingAllowed` reads the spacing from the spacing record. -/
def execSpacingComplete (s : State) : Host.Outcome State Fault Refusal :=
  .next (s.minimumPasses s.spacing openingSpacing)

/-! ### Closes and refreshes -/

/-- CLOSE_BEGIN (R55): by the close decision, or in the run-down without one (R19). -/
def execCloseBegin (b : Fin 16) (s : State) : Host.Outcome State Fault Refusal :=
  if s.mayClose b then
    .next (s.setBank b { s.bank b with
      state := .closing, closeDue := some (s.now + closeTime), idleDue := none, idleDecision := false }).settle
  else .next s

/-- A bank as its close completes (R7, R55). -/
def Bank.closed (r : Bank) : Bank :=
  { r with
    state := .closed
    openRow := none
    minOpenDone := false
    lastReadEnd := none
    lastWriteEnd := none
    minOpenDue := none
    closeDue := none
    hitStreak := 0
    idleDue := none
    idleDecision := false }

/-- CLOSE_COMPLETE (R7). -/
def execCloseComplete (b : Fin 16) (s : State) : Host.Outcome State Fault Refusal :=
  match (s.bank b).closeDue with
  | none => .next s
  | some due =>
    let s := s.at due
    .next (s.setBank b (s.bank b).closed).settleRunDown.settle

/-- REFRESH_COMPLETE (R8, R88). -/
def execRefreshComplete (b : Fin 16) (s : State) : Host.Outcome State Fault Refusal :=
  match (s.bank b).refreshDue with
  | none => .next s
  | some due =>
    let s := s.at due
    .next (s.setBank b { s.bank b with state := .closed, refreshDue := none, debt := (s.bank b).debt - 1 }).settle

/-- IDLE_CLOSE_EXPIRY (R57). -/
def execIdleCloseExpiry (b : Fin 16) (s : State) : Host.Outcome State Fault Refusal :=
  match (s.bank b).idleDue with
  | none => .next s
  | some due =>
    let s := s.at due
    .next (s.setBank b { s.bank b with idleDue := none, idleDecision := true })

/-! ### The column path -/

/-- The bank's ready queue holds an entry older than `e` whose row is not the open row (R56). -/
def State.olderRowMiss (s : State) (b : Fin 16) (e : Entry) : Bool :=
  s.table.any fun x => x.2.queuedOn b && x.2.older e && decide (some (rowOf x.2.first) ≠ (s.bank b).openRow)

/-- The hit streak after a first access to the bank is granted to `e` (R56). -/
def State.nextStreak (s : State) (b : Fin 16) (e : Entry) : Nat :=
  if s.olderRowMiss b e then min 64 ((s.bank b).hitStreak + 1) else 0

/-- A first access is granted (R62). -/
def State.grantFirst (s : State) (slot : Nat) (e : Entry) : State :=
  let b := bankOf e.first
  let streak := s.nextStreak b e
  let s := s.setEntry slot { e with state := .inAccess }
  let s := s.setBank b { s.bank b with hitStreak := streak }
  { s with path := { s.path with flight := some (firstFlight s.now slot e) } }

/-- FIRST_ACCESS_GRANT (R61, R62): only while no write-back is a candidate. -/
def execFirstAccessGrant (s : State) : Host.Outcome State Fault Refusal :=
  match s.writeBackChoice, s.firstAccessChoice with
  | none, some (slot, e) => if s.pathAllows e.firstDirection then .next (s.grantFirst slot e).settle else .next s
  | _, _ => .next s

/-- WRITE_BACK_GRANT (R61, R63). -/
def execWriteBackGrant (s : State) : Host.Outcome State Fault Refusal :=
  match s.writeBackChoice with
  | some (slot, e) =>
    if s.pathAllows .write then .next { s with path := { s.path with flight := some (writeBackFlight s.now slot e) } }
    else .next s
  | none => .next s

/-- READ_TRANSFER_END (R11). -/
def execReadTransferEnd (s : State) : Host.Outcome State Fault Refusal :=
  match s.path.flight with
  | some f => if f.dir = .read then .next (s.readEnds f).finish else .next s
  | none => .next s

/-- WRITE_TRANSFER_END (R12): the reply to a FILL-ABORT may overrun its port's queue, and so free the Management Unit. -/
def execWriteTransferEnd (s : State) : Host.Outcome State Fault Refusal :=
  match s.path.flight with
  | some f => if f.dir = .write then .next (s.writeEnds f).finish else .next s
  | none => .next s

end Sys2Proof.Machine
end

