-- ==== Sys2Proof/Machine/Maintain.lean ====
section
/-! DEFINITION. The meanings of the rows of the world and of the Maintenance Controller and Integrity Unit (chapters 1, 5 and
6): cell faults, temperature readings, the refresh interval timers, calibration and scrub steps. -/

namespace Sys2Proof.Machine

/-! ### The world -/

/-- CELL_FAULT (R14). -/
def execCellFault (block : BitVec 25) (s : State) : Host.Outcome State Fault Refusal :=
  .next (s.setCondition block.toNat (worsen (s.condition block.toNat)))

/-- The sensor's range (R93): a temperature outside it is reported as the nearer end (log 18). -/
def clampReading (celsius : Int) : Int := max (-40) (min 125 celsius)

/-- The HOT flag after a reading of the 1 ms stream, with hysteresis (R94). -/
def hotAfter (hot : Bool) (reading : Int) : Bool := if hot then decide (81 ≤ reading) else decide (85 ≤ reading)

/-- The reading lies 8 °C or more from the calibration temperature (R99). -/
def farFrom (calTemp reading : Int) : Bool := decide (8 ≤ reading - calTemp ∨ 8 ≤ calTemp - reading)

/-- The temperature trigger (R99). -/
def State.compareReading (s : State) (reading : Int) : State :=
  if farFrom s.maint.calTemp reading then s.calTrigger .short else s

/-- A reading of the 1 ms stream is taken: the last temperature (R93), the HOT flag with its notice (R94), the trigger (R99). -/
def State.takeReading (s : State) (reading : Int) : State :=
  let hot := hotAfter s.maint.hot reading
  let t := { s with maint := { s.maint with lastTemp := reading, hot := hot } }
  (if hot = s.maint.hot then t else t.raiseBoth (.thermal reading hot)).compareReading reading

/-- TEMPERATURE_READING (R94). -/
def execTemperatureReading (celsius : Int) (s : State) : Host.Outcome State Fault Refusal :=
  .next (s.takeReading (clampReading celsius)).settle

/-- START_UP_READING (R95): in STARTING, once asked for. -/
def execStartUpReading (celsius : Int) (s : State) : Host.Outcome State Fault Refusal :=
  if s.power.state = .starting ∧ s.maint.readingAsked = true then
    let reading := clampReading celsius
    let t := { s with maint := { s.maint with lastTemp := reading, hot := decide (85 ≤ reading), readingAsked := false } }
    .next ((t.compareReading reading).calTrigger .long).settle
  else .next s

/-! ### Refresh intervals -/

/-- A bank's interval timer expires (R87, R88): the next expiry is set, and the debt rises or, at 7, a refresh is missed
(R89). -/
def State.intervalExpires (s : State) (b : Fin 16) : State :=
  let r := s.bank b
  let next := { r with intervalDue := some (s.now + refreshInterval s.maint.hot) }
  if r.debt < 7 then s.setBank b { next with debt := r.debt + 1 }
  else
    let missed := min 65535 (s.maint.missed + 1)
    State.raiseBoth { s.setBank b next with maint := { s.maint with missed := missed } } (.refreshMissed b missed)

/-- INTERVAL_EXPIRY (R88). -/
def execIntervalExpiry (b : Fin 16) (s : State) : Host.Outcome State Fault Refusal :=
  match (s.bank b).intervalDue with
  | none => .next s
  | some due => .next ((s.at due).intervalExpires b)

/-! ### Calibration -/

/-- CALIBRATION_TIMER_EXPIRY (R98). -/
def execCalibrationTimerExpiry (s : State) : Host.Outcome State Fault Refusal :=
  match s.maint.calTimerDue with
  | none => .next s
  | some due =>
    let s := s.at due
    .next (State.calTrigger { s with maint := { s.maint with calTimerDue := none } } .short).settle

/-- A run of the pending kind begins (R9, R100). -/
def State.beginRun (s : State) (k : CalKind) : State :=
  { s with
    maint := { s.maint with
      cal := .running k, calTemp := s.maint.lastTemp, calTimerDue := some (s.now + calibrationPeriod) }
    calRunDue := some (s.now + calibrationRun k) }

/-- CALIBRATION_RUN_BEGIN (R100): with a calibration pending and every bank CLOSED. -/
def execCalibrationRunBegin (s : State) : Host.Outcome State Fault Refusal :=
  match s.maint.cal with
  | .pending k => if s.allClosed then .next (s.beginRun k) else .next s
  | _ => .next s

/-- The calibration record as a run completes (R101). -/
def Maintenance.runCompleted (m : Maintenance) (timeBase : BitVec 32) : Maintenance :=
  { m with
    lastCompletion := timeBase
    followOn := none
    cal := match m.followOn with
      | none => .idle
      | some k => .pending k }

/-- CALIBRATION_RUN_COMPLETE (R101): the Array is NORMAL again (R9). -/
def execCalibrationRunComplete (s : State) : Host.Outcome State Fault Refusal :=
  match s.calRunDue with
  | none => .next s
  | some due =>
    let s := s.at due
    .next (State.settle { s with calRunDue := none, maint := s.maint.runCompleted s.power.timeBase })

/-! ### Scrub steps -/

/-- A step falls due (R108): taken if it can be, otherwise pending. -/
def State.stepFallsDue (s : State) : State :=
  match s.stepSlot with
  | some slot => s.takeStep slot
  | none => { s with scrub := { s.scrub with pendingStep := true } }

/-- STEP_TIMER_EXPIRY (R107, R108): the timer starts again for one interval. -/
def execStepTimerExpiry (s : State) : Host.Outcome State Fault Refusal :=
  match s.scrub.stepDue with
  | none => .next s
  | some due =>
    let s := s.at due
    .next (State.stepFallsDue
      { s with scrub := { s.scrub with stepDue := some (s.now + stepInterval s.store.scrubPeriod) } }).settle

end Sys2Proof.Machine
end

