-- ==== Sys2Proof/Machine/PowerRows.lean ====
section
/-! DEFINITION. The meanings of the rows of supply, reset and the Power Controller (chapter 11). -/

namespace Sys2Proof.Machine

/-! ### Supply and reset (R175, R176) -/

/-- The part as supply is applied (R18, R175): everything at its power-on values, the array with the free contents of this
power-on (log 4); the model's own fields go on. With RST_N low the interval timers start, as at RST_N going low (R86,
R176; log 7). -/
def State.powerUp (s : State) (rstHigh : Bool) : State :=
  let t := { State.reset with
    now := s.now
    powerOns := s.powerOns + 1
    rstHigh := rstHigh
    pending := s.pending
    portA := { PortRec.powerOn with tx := s.portA.tx }
    portB := { PortRec.powerOn with tx := s.portB.tx } }
  if rstHigh then t else t.startIntervals

/-- POWER_ON (R175). -/
def execPowerOn (rstHigh : Bool) (s : State) : Host.Outcome State Fault Refusal := .next (s.powerUp rstHigh)

/-- POWER_ON_RESET_END (R176): OWNER_SEL is sampled (R125); with RST_N high HELD ends. -/
def execPowerOnResetEnd (ownerSelHigh : Bool) (s : State) : Host.Outcome State Fault Refusal :=
  if s.powerOnReset then
    let t := { s with powerOnReset := false, owner := ownerSelected ownerSelHigh }
    .next (if s.rstHigh then t.leaveHeld else t.startIntervalsIfStopped)
  else .next s

/-- PIN_RESET_ASSERT (R175): RST_N goes low. -/
def execPinResetAssert (s : State) : Host.Outcome State Fault Refusal :=
  if s.rstHigh then .next (State.resetLow { s with rstHigh := false }) else .next s

/-- A release of RST_N while the power-on reset is in progress (log 7): the timers stop and the counts clear as at any release
(R17, R65, R86, R89), and HELD goes on to the end of the power-on reset. -/
def State.releaseInPowerOn (s : State) : State :=
  State.mapBanks { s with maint := { s.maint with missed := 0 } } fun _ r => r.released

/-- RESET_RELEASE (R176): OWNER_SEL is sampled (R125), and HELD ends unless the power-on reset is still in progress (log 7). -/
def execResetRelease (ownerSelHigh : Bool) (s : State) : Host.Outcome State Fault Refusal :=
  if s.rstHigh then .next s
  else
    let t := { s with rstHigh := true, owner := ownerSelected ownerSelHigh }
    .next (if s.powerOnReset then t.releaseInPowerOn else t.leaveHeld)

/-- RESTART_TAKES_EFFECT (R173): as RST_N going low and released at once, the owner port kept. -/
def execRestartTakesEffect (s : State) : Host.Outcome State Fault Refusal :=
  if s.mgmt.unit = .restartDue then .next s.resetLow.leaveHeld else .next s

/-! ### Start-up and the time base (R176, R177) -/

/-- The time base is set to 0 and begins to count (R177). -/
def State.startTimeBase (s : State) : State :=
  { s with power := { s.power with timeBase := 0, tickDue := some (s.now + ms 1) } }

/-- The power state becomes ACTIVE from STARTING or WAKING (R176, R185). -/
def State.becomeActive (s : State) : State :=
  (State.startTimeBase { s with power := { s.power with state := .active } }).startSteps

/-- Both PENDING links are answered, each on its own (R136). -/
def State.answerBoth (s : State) : State := (s.answerPending .a).answerPending .b

/-- Start-up ends when these hold (R176). -/
def State.startupDone (s : State) : Bool :=
  decide (s.power.state = .starting) && !s.maint.readingAsked && s.calIdle && s.refreshClear

/-- STARTUP_END (R176). -/
def execStartupEnd (s : State) : Host.Outcome State Fault Refusal :=
  if s.startupDone then .next s.becomeActive.startIntervals.answerBoth.settle else .next s

/-- TIME_BASE_TICK (R177). -/
def execTimeBaseTick (s : State) : Host.Outcome State Fault Refusal :=
  match s.power.tickDue with
  | none => .next s
  | some due =>
    let s := s.at due
    .next { s with power := { s.power with timeBase := s.power.timeBase + 1, tickDue := some (s.now + ms 1) } }

/-! ### NAP (R178, R179) -/

/-- NAP_IDLE_TIMER_EXPIRY (R178). -/
def execNapIdleTimerExpiry (s : State) : Host.Outcome State Fault Refusal :=
  match s.power.idleDue with
  | none => .next s
  | some due =>
    let s := s.at due
    .next (State.settle { s with power := { s.power with idleDue := none, napDue := true } })

/-- NAP may begin (R178). -/
def State.napReady (s : State) : Bool := s.power.napDue && s.napConditions && s.allClosed

/-- NAP_ENTRY (R178): the nap-entry count stays at 4,294,967,295 (R174). -/
def execNapEntry (s : State) : Host.Outcome State Fault Refusal :=
  if s.napReady then
    .next { s with power := { s.power with
      state := .nap, napDue := false, napCount := min 4294967295 (s.power.napCount + 1) } }
  else .next s

/-- NAP_EXIT_DELAY_COMPLETE (R64, R179). -/
def execNapExitDelayComplete (s : State) : Host.Outcome State Fault Refusal :=
  match s.power.exitDue with
  | none => .next s
  | some due =>
    let s := s.at due
    .next { s with power := { s.power with exitDue := none } }

/-! ### Retention (R181 to R185) -/

/-- The power record as ENTERING begins (R181). -/
def State.enteringPower (s : State) : Power :=
  { s.power with
    state := .entering
    idleDue := none
    napDue := false
    exitDue := if s.power.state = .nap then some (s.now + napExitDelay) else s.power.exitDue }

/-- ENTERING_BEGIN (R181): RETAIN-ENTERING is raised on each ACTIVE link. -/
def execEnteringBegin (s : State) : Host.Outcome State Fault Refusal :=
  if s.enteringConditions then
    .next (State.raiseBoth
      { s with
        power := s.enteringPower
        maint := { s.maint with calTimerDue := none }
        scrub := { s.scrub with stepDue := none, pendingStep := false } } .retainEntering)
  else .next s

/-- A port as RETAIN is entered (R151, R182): its link SLEEP with the session cleared, no vote. -/
def PortRec.sleeping (r : PortRec) : PortRec := { r with link := { Link.cleared with state := .sleep }, vote := false }

/-- RETAIN_ENTRY (R182). -/
def execRetainEntry (s : State) : Host.Outcome State Fault Refusal :=
  if s.power.state = .entering ∧ s.retainConditions = true then
    .next { s with
      power := { s.power with state := .retain }
      portA := s.portA.sleeping
      portB := s.portB.sleeping }
  else .next s

/-- WAKING_END (R185). -/
def execWakingEnd (s : State) : Host.Outcome State Fault Refusal :=
  if s.power.state = .waking ∧ s.calIdle = true then .next s.becomeActive.answerBoth.settle else .next s

end Sys2Proof.Machine
end

