-- ==== Sys2Proof/Machine/Dispatch.lean ====
section
/-! DEFINITION. Every command and its meaning: one arm for each row of spec/opcode_table.json. -/

namespace Sys2Proof.Machine

/-- The effect of a command on everything but the queue. -/
def exec (i : Instr) (s : State) : Host.Outcome State Fault Refusal :=
  match i with
  | .powerOn rstHigh => Sys2Proof.Machine.execPowerOn rstHigh s
  | .powerOnResetEnd ownerSelHigh => Sys2Proof.Machine.execPowerOnResetEnd ownerSelHigh s
  | .pinResetAssert => Sys2Proof.Machine.execPinResetAssert s
  | .resetRelease ownerSelHigh => Sys2Proof.Machine.execResetRelease ownerSelHigh s
  | .cellFault block => Sys2Proof.Machine.execCellFault block s
  | .temperatureReading celsius => Sys2Proof.Machine.execTemperatureReading celsius s
  | .startUpReading celsius => Sys2Proof.Machine.execStartUpReading celsius s
  | .msg port seq ackSeq ackValid body => Sys2Proof.Machine.execMsg port seq ackSeq ackValid body s
  | .ack port seq ackSeq ackValid => Sys2Proof.Machine.execAck port seq ackSeq ackValid s
  | .replayReq port number => Sys2Proof.Machine.execReplayReq port number s
  | .train port revision => Sys2Proof.Machine.execTrain port revision s
  | .linkDownFrame port reason => Sys2Proof.Machine.execLinkDownFrame port reason s
  | .badFrame port => Sys2Proof.Machine.execBadFrame port s
  | .replayRequestTimerExpiry port => Sys2Proof.Machine.execReplayRequestTimerExpiry port s
  | .acknowledgementTimerExpiry port => Sys2Proof.Machine.execAcknowledgementTimerExpiry port s
  | .replayTimerExpiry port => Sys2Proof.Machine.execReplayTimerExpiry port s
  | .outgoingArbiterTake port => Sys2Proof.Machine.execOutgoingArbiterTake port s
  | .frameResend port => Sys2Proof.Machine.execFrameResend port s
  | .openingGrant => Sys2Proof.Machine.execOpeningGrant s
  | .openDelayComplete bank => Sys2Proof.Machine.execOpenDelayComplete bank s
  | .minimumOpenComplete bank => Sys2Proof.Machine.execMinimumOpenComplete bank s
  | .readToCloseComplete bank => Sys2Proof.Machine.execReadToCloseComplete bank s
  | .writeRecoveryComplete bank => Sys2Proof.Machine.execWriteRecoveryComplete bank s
  | .turnaroundComplete => Sys2Proof.Machine.execTurnaroundComplete s
  | .closeBegin bank => Sys2Proof.Machine.execCloseBegin bank s
  | .closeComplete bank => Sys2Proof.Machine.execCloseComplete bank s
  | .refreshComplete bank => Sys2Proof.Machine.execRefreshComplete bank s
  | .firstAccessGrant => Sys2Proof.Machine.execFirstAccessGrant s
  | .writeBackGrant => Sys2Proof.Machine.execWriteBackGrant s
  | .readTransferEnd => Sys2Proof.Machine.execReadTransferEnd s
  | .writeTransferEnd => Sys2Proof.Machine.execWriteTransferEnd s
  | .windowSlotExpiry => Sys2Proof.Machine.execWindowSlotExpiry s
  | .spacingComplete => Sys2Proof.Machine.execSpacingComplete s
  | .idleCloseExpiry bank => Sys2Proof.Machine.execIdleCloseExpiry bank s
  | .intervalExpiry bank => Sys2Proof.Machine.execIntervalExpiry bank s
  | .calibrationTimerExpiry => Sys2Proof.Machine.execCalibrationTimerExpiry s
  | .calibrationRunBegin => Sys2Proof.Machine.execCalibrationRunBegin s
  | .calibrationRunComplete => Sys2Proof.Machine.execCalibrationRunComplete s
  | .stepTimerExpiry => Sys2Proof.Machine.execStepTimerExpiry s
  | .napIdleTimerExpiry => Sys2Proof.Machine.execNapIdleTimerExpiry s
  | .napEntry => Sys2Proof.Machine.execNapEntry s
  | .napExitDelayComplete => Sys2Proof.Machine.execNapExitDelayComplete s
  | .timeBaseTick => Sys2Proof.Machine.execTimeBaseTick s
  | .startupEnd => Sys2Proof.Machine.execStartupEnd s
  | .enteringBegin => Sys2Proof.Machine.execEnteringBegin s
  | .retainEntry => Sys2Proof.Machine.execRetainEntry s
  | .wakingEnd => Sys2Proof.Machine.execWakingEnd s
  | .restartTakesEffect => Sys2Proof.Machine.execRestartTakesEffect s
  | .configGet port tag key => Sys2Proof.Machine.execConfigGet port tag key s
  | .configSet port tag key value => Sys2Proof.Machine.execConfigSet port tag key value s
  | .status port tag clear => Sys2Proof.Machine.execStatus port tag clear s
  | .regionGet port tag slot => Sys2Proof.Machine.execRegionGet port tag slot s
  | .regionSet port tag slot first count enable rightsA rightsB => Sys2Proof.Machine.execRegionSet port tag slot first count enable rightsA rightsB s
  | .errorFetch port tag => Sys2Proof.Machine.execErrorFetch port tag s
  | .errorClear port tag number => Sys2Proof.Machine.execErrorClear port tag number s
  | .fillStart port tag first count pattern => Sys2Proof.Machine.execFillStart port tag first count pattern s
  | .fillAbort port tag => Sys2Proof.Machine.execFillAbort port tag s
  | .retainVote port tag => Sys2Proof.Machine.execRetainVote port tag s
  | .retainWithdraw port tag => Sys2Proof.Machine.execRetainWithdraw port tag s
  | .calibrate port tag => Sys2Proof.Machine.execCalibrate port tag s
  | .restart port tag => Sys2Proof.Machine.execRestart port tag s

end Sys2Proof.Machine
end

