-- ==== Sys2Proof/Safety.lean ====
section
/-! DEFINITION. What the statements speak of: whether a stop is safe, the state but for the timers that follow conditions, a
management request that is taken at once, and the invariants of the part. -/

namespace Sys2Proof.Machine

/-! ### Stops -/

/-- A fault that excludes no behaviour of the part and invents none: `noFreeSlot` stops where the credit account says the part
never is (log 16). -/
def Fault.safe : Fault → Bool
  | .noFreeSlot => true

/-- A refusal stops the model, and is safe. -/
def Refusal.safe (_ : Refusal) : Bool := true

/-! ### The state but for the timers that follow conditions -/

/-- A bank but for its idle-close timer and idle decision (R57). -/
def Bank.untimed (r : Bank) : Bank := { r with idleDue := none, idleDecision := false }

/-- The state but for the idle-close timers and decisions (R57) and the NAP idle timer with nap due (R178), which
`State.settle` brings up to date at the end of an event. -/
def State.untimed (s : State) : State :=
  { s with
    banks := Vector.ofFn fun b => (s.bank b).untimed
    power := { s.power with idleDue := none, napDue := false } }

/-! ### A management request taken at once -/

/-- A management request carrying a tag can be accepted on a port and taken at once, with nothing else falling in the event: the
port receives, a credit is held, the tag is not in use, the acknowledgement does not reach 16, the control queue has room
and the Management Unit is free (R137, R139, R144, R146, R162, R164). -/
def State.readyForRequest (s : State) (p : Port) (tag : Byte) : Prop :=
  s.receives p = true ∧ (s.link p).mgmtOut ≠ 0 ∧ (s.link p).unacked < 15 ∧ s.tagInUse p tag = false ∧
    (s.link p).control.length < 64 ∧ s.mgmt.unit = .free ∧ s.mgmt.queue = []

/-- The link record after a management request has been accepted and answered in one event: acceptance (R137, R139), the credit
taken and back in pending return (R144, R145), the reply at the tail of the control queue (R146). -/
def Link.answered (l : Link) (now : Time) (reply : Message) : Link :=
  { l with
    expected := l.expected + 1
    awaitingReplay := false
    replayRequestDue := none
    retry := 0
    ackValid := true
    unacked := l.unacked + 1
    ackDue := some (l.ackDue.getD (now + us 1))
    mgmtOut := l.mgmtOut - 1
    mgmtPend := l.mgmtPend + 1
    control := l.control ++ [reply] }

/-- The state after a management request of a port has been accepted and answered, its own effect apart. -/
def State.answered (s : State) (p : Port) (reply : Message) : State := s.setLink p ((s.link p).answered s.now reply)

/-- What a port keeps after the acceptance of a frame whose message takes a credit of a class or none: acceptance (R137), the
credit taken (R144), the acknowledgement counted; the acceptance that makes 16 unacknowledged sends an ACK frame, which
carries the credits pending with fewer than 12 messages in the control queue (R139, R145; log 31). -/
def PortRec.accepting (r : PortRec) (now : Time) (cls : Option RequestClass) : PortRec :=
  let l := r.link
  let taken : Link := { l with
    expected := l.expected + 1
    awaitingReplay := false
    replayRequestDue := none
    retry := 0
    ackValid := true
    unacked := l.unacked + 1
    ackDue := if l.unacked = 0 then some (l.ackDue.getD (now + us 1)) else l.ackDue
    memOut := if cls = some .memory then l.memOut - 1 else l.memOut
    mgmtOut := if cls = some .management then l.mgmtOut - 1 else l.mgmtOut }
  if l.unacked < 15 then { r with link := taken }
  else
    let mem := if l.control.length < 12 then l.memPend else 0
    let mgmt := if l.control.length < 12 then l.mgmtPend else 0
    { r with
      link := { taken with
        unacked := 0
        ackDue := none
        memOut := taken.memOut + mem
        memPend := l.memPend - mem
        mgmtOut := taken.mgmtOut + mgmt
        mgmtPend := l.mgmtPend - mgmt }
      tx := r.tx ++ [⟨2, l.next, l.expected, mem, mgmt, true, []⟩] }

/-- A reply with status OK (R159). -/
def okReply (tag : Byte) (kind : Nat) (block extra : BitVec 32) (payload : List Byte) : Message :=
  ⟨37, tag, BitVec.ofNat 8 kind, 0, block, extra, payload⟩

/-- A reply with a failing status: no payload, block number zero (R159). -/
def failReply (tag : Byte) (kind code : Nat) (extra : BitVec 32) : Message :=
  ⟨37, tag, BitVec.ofNat 8 kind, BitVec.ofNat 8 code, 0, extra, []⟩

/-! ### Invariants -/

/-- Everything sparse is in its canonical form. -/
def State.canonical (s : State) : Prop :=
  Sparse.Wf s.contents ∧ Sparse.Wf s.conditions ∧ Sparse.Wf s.table

/-- The opening records (R48): at most 5 starts, any two at least 5 ns apart, none after the start in the spacing record, and
that one not after the present. -/
def State.openingsSpaced (s : State) : Prop :=
  s.window.length ≤ 5 ∧ s.window.Pairwise (fun t u => t + ns 5 ≤ u) ∧
    (∀ t ∈ s.window, ∃ u, s.spacing = some u ∧ t ≤ u) ∧ ∀ u, s.spacing = some u → u ≤ s.now

/-- Every bank's counts are in the ranges the rules give (R4, R17, R56, R88). -/
def State.banksInRange (s : State) : Prop :=
  ∀ b, (s.bank b).debt ≤ 7 ∧ (s.bank b).corrected ≤ 65535 ∧ (s.bank b).hitStreak ≤ 64 ∧
    (s.bank b).refreshPos ≤ 32760 ∧ (s.bank b).refreshPos % 8 = 0

/-- The part's own counters are in the ranges the rules give (R89, R105, R112, R118, R174). -/
def State.countersInRange (s : State) : Prop :=
  s.maint.missed ≤ 65535 ∧ s.scrub.cursor ≤ 4194303 ∧ s.scrub.passes ≤ 65535 ∧ s.errors.overflow ≤ 65535 ∧
    s.power.napCount ≤ 4294967295 ∧ (∀ r ∈ s.errors.records, 1 ≤ r.hits ∧ r.hits ≤ 65535) ∧
    ∀ f, s.fill = some f → f.inFlight ≤ 3

/-- A link record is in the ranges of Table 8-1, its credits apart (`Link.creditsInRange`). -/
def Link.inRange (l : Link) : Prop :=
  l.buffer.length ≤ 32 ∧ l.control.length ≤ 64 ∧ l.unacked ≤ 16 ∧ l.retry ≤ 4 ∧ l.sentCount ≤ 128 ∧
    ∀ (i : Fin 6) (x : NoticeSlot), l.notices[i] = some x → x.alsoSince ≤ 255

/-- Both link records are in the ranges of Table 8-1, their credits apart. -/
def State.linksInRange (s : State) : Prop := ∀ p, (s.link p).inRange

/-- A link record's credits are in the ranges of Table 8-1: outstanding and pending together at most 48 and at most 4. -/
def Link.creditsInRange (l : Link) : Prop := l.memOut + l.memPend ≤ 48 ∧ l.mgmtOut + l.mgmtPend ≤ 4

/-- Both link records' credits are in the ranges of Table 8-1. -/
def State.creditsInRange (s : State) : Prop := ∀ p, (s.link p).creditsInRange

/-- The Error Record Table (R118, R120): at most 16 records, no two naming one block or carrying one number, and the next
record number carried by none. -/
def State.recordsDistinct (s : State) : Prop :=
  s.errors.records.length ≤ 16 ∧ s.errors.records.Pairwise (fun r q => r.block ≠ q.block ∧ r.number ≠ q.number) ∧
    (∀ r ∈ s.errors.records, r.number < 65536) ∧ s.errors.nextNumber < 65536 ∧
    carriesNumber s.errors.records s.errors.nextNumber = false

/-- A free Management Unit has nothing waiting (R164). -/
def State.freeUnitIdle (s : State) : Prop := s.mgmt.unit = .free → s.mgmt.queue = []

/-- Ages (R24 to R26): every age in use is below the counter; of two entries one is the older; the running fill's cursor lies
in its range, a whole number of groups from the end, and its entries below the cursor. -/
def State.agesSound (s : State) : Prop :=
  (∀ x ∈ s.table, x.2.age < s.ageCounter) ∧
    s.table.Pairwise (fun x y => x.2.age ≠ y.2.age ∨ x.2.first ≠ y.2.first) ∧
    ∀ f, s.fill = some f → f.age < s.ageCounter ∧ f.cursor ≤ f.first + f.count ∧
      (f.first + f.count - f.cursor) % 8 = 0 ∧
      ∀ x ∈ s.table, x.2.age = f.age → x.2.first < f.cursor ∧ x.2.first + x.2.count ≤ f.cursor

/-- Reply lists (R38): no slot twice, and a port's list holds exactly the slots of its DONE entries that are not orphans. -/
def State.repliesSound (s : State) : Prop :=
  ∀ p, (s.port p).replies.Nodup ∧ ∀ k, k ∈ (s.port p).replies ↔ ∃ e tag session,
    s.entry k = some e ∧ e.state = .done ∧ e.owner = .port p tag session false

/-- What Table 2-1 says is present (R22): a BARRIER has no range; a write-back set stands in IN-UPDATE alone, and not empty;
hold reasons stand in HELD alone. -/
def Entry.fieldsPresent (e : Entry) : Prop :=
  (e.kind = .barrier → e.first = 0 ∧ e.count = 0) ∧ (e.writeBack ≠ [] ↔ e.state = .inUpdate) ∧
    (e.state ≠ .held → e.holds.isEmpty = true)

/-- Every entry has the fields Table 2-1 says are present (R22). -/
def State.recordsPresent (s : State) : Prop := ∀ x ∈ s.table, x.2.fieldsPresent

/-- The access in flight, unless a reset has discarded its entry, is that of an entry in IN-ACCESS or IN-UPDATE (R37). -/
def State.flightSound (s : State) : Prop :=
  ∀ f k, s.path.flight = some f → f.slot = some k → ∃ e, s.entry k = some e ∧ (e.state = .inAccess ∨ e.state = .inUpdate)

/-- The hold reasons recorded in a HELD entry are those that apply to it, at least one; to an entry that has left HELD none
applies (R31 to R35, section 2.6). -/
def State.holdsRespected (s : State) : Prop :=
  ∀ x ∈ s.table, (x.2.state = .held → x.2.holds = holdsOf s.table s.fill x.2 ∧ x.2.holds.isEmpty = false) ∧
    (x.2.state ≠ .held → (holdsOf s.table s.fill x.2).isEmpty = true)

/-- The Transaction Table is sound. -/
def State.tableSound (s : State) : Prop :=
  Sparse.Wf s.table ∧ s.agesSound ∧ s.repliesSound ∧ s.flightSound ∧ s.holdsRespected ∧ s.recordsPresent

/-- Each port's entries stand in its own partition and no other entry does (R20). -/
def State.partitioned (s : State) : Prop :=
  ∀ x ∈ s.table, ∀ p, x.2.owner.port? = some p ↔ partitionStart p ≤ x.1 ∧ x.1 < partitionStart p + 48

/-- The credit accounts (R144): on an ACTIVE link the memory credits outstanding and pending with the entries held are 48, the
management credits outstanding and pending with the requests held are 4. -/
def State.creditsBalance (s : State) : Prop :=
  ∀ p, s.linkActive p = true →
    (s.link p).memOut + (s.link p).memPend + s.heldByPort p = 48 ∧
      (s.link p).mgmtOut + (s.link p).mgmtPend + s.mgmtHeld p = 4

/-- The credit accounts with what their keeping rests on: the table in order and partitioned, no abort reply in a fill that
runs, at most 4 requests held for a port. -/
def State.accountsSound (s : State) : Prop :=
  Sparse.Wf s.table ∧ s.partitioned ∧ (∀ f, s.fill = some f → f.aborting = false → f.abortReply = none) ∧
    (∀ p, s.mgmtHeld p ≤ 4) ∧ s.creditsBalance

end Sys2Proof.Machine
end

