-- ==== Sys2Proof/Certificates/Slice0/Obligations.lean ====
section
/-! DEFINITION. The statements for the provers. A statement of what a command does gives its whole next state: what the
equation does not change is unchanged. -/

section

open Sys2Proof Sys2Proof.Machine

/-! ### The machine -/

/-- A step runs the command at the front of the queue on the state with the queue's rest (chapter 0). On an empty queue
one unit of time passes and nothing else. The model's choice (log 2). -/
def Obligations.StepRunsFrontCommand : Prop :=
  (∀ (c : Instr) (rest : List Instr) (s : State), step { s with pending := c :: rest } = exec c { s with pending := rest }) ∧
  (∀ s : State, s.pending = [] → step s = .next { s with now := s.now + 1 })

/-- While the credit accounts balance, every command answers a next state: no request finds its port's partition full
(R20, R144). Model's choice: log 16. -/
def Obligations.BalancedCreditsNeverStop : Prop :=
  ∀ (c : Instr) (s : State), s.accountsSound → ∃ t, exec c s = .next t

/-- The values at power-on (R4, R10, R49, R86, R88, R93, R96, R105, R118, R127, R133, R167, R174): the part is in HELD.
The invariants hold in the state after reset. Model's choices: log 5, log 6, log 25, log 28. -/
def Obligations.ResetHoldsPowerOnValues : Prop :=
  (State.reset.power = ⟨.held, none, false, none, 0, 0, none⟩ ∧
  (∀ b, State.reset.bank b =
    ⟨.closed, none, false, none, none, 0, none, none, none, none, 0, 0, none, false, 0, none⟩) ∧
  State.reset.path = ⟨none, none, none⟩ ∧ State.reset.calRunDue = none ∧
  State.reset.window = [] ∧ State.reset.spacing = none ∧
  State.reset.table = [] ∧ State.reset.ageCounter = 0 ∧
  (∀ p, (State.reset.port p).session = 0 ∧ (State.reset.port p).replies = [] ∧ (State.reset.port p).vote = false) ∧
  (∀ p, State.reset.link p =
    ⟨.down, none, 0, false, none, 0, false, none, 0, 0, [], none, none, 0, 0, 0, 0, 0, [], Vector.replicate 6 none⟩) ∧
  State.reset.maint = ⟨0, 85, true, false, .idle, none, 85, 0, none⟩ ∧
  State.reset.scrub = ⟨0, 0, none, false⟩ ∧ State.reset.fill = none ∧ State.reset.errors = ⟨[], 0, 0⟩ ∧
  (∀ i : Fin 8, State.reset.regions[i] = none) ∧ State.reset.mgmt = ⟨[], .free⟩ ∧
  State.reset.store = ⟨40, 16, 20, 24, true, 0x3F, 0x3F, .readWrite, .readWrite⟩) ∧
  (State.reset.memoryWf ∧ State.reset.openingsSpaced ∧ State.reset.banksInRange ∧ State.reset.countersInRange ∧
  State.reset.linksInRange ∧ State.reset.recordsDistinct ∧ State.reset.freeUnitIdle ∧ State.reset.tableSound ∧
  State.reset.creditsInRange ∧ State.reset.accountsSound)

/-! ### Invariants that every step keeps -/

/-- Every step keeps the Transaction Table sound (R22, R24 to R26, R31 to R38): the hold rules stand for every entry that
has left HELD, each reply list holds exactly its port's DONE entries that are not orphans, each access in flight has its
entry in IN-ACCESS or IN-UPDATE, a BARRIER has no range, write-back sets stand in IN-UPDATE alone and hold reasons in HELD
alone. Model's choice: log 12. -/
def Obligations.StepsKeepTheTableSound : Prop :=
  ∀ s t : State, s.tableSound → step s = .next t → t.tableSound

/-- In a sound table, two entries whose block ranges overlap are never both in IN-ACCESS or IN-UPDATE unless both are
READ entries, and no port entry is in either while an older BARRIER of its port and session is in the table (R32, R33).
-/
def Obligations.OverlappingAccessesExclude : Prop :=
  ∀ s : State, s.tableSound → ∀ x ∈ s.table, ∀ y ∈ s.table,
    (x.2.state = .inAccess ∨ x.2.state = .inUpdate) →
      ((y.2.state = .inAccess ∨ y.2.state = .inUpdate) → x.1 ≠ y.1 → x.2.overlaps y.2 = true →
        x.2.kind = .read ∧ y.2.kind = .read) ∧
      (y.2.kind = .barrier → sameSession y.2.owner x.2.owner = true → ¬ y.2.age < x.2.age)

/-- Every step keeps the credit accounts (R20, R144): on an ACTIVE link memory credits outstanding, pending and entries
held sum to 48, and the management credits to 4. -/
def Obligations.StepsKeepTheCreditAccounts : Prop :=
  ∀ s t : State, s.accountsSound → step s = .next t → t.accountsSound

/-- Every step keeps the opening records (R48, R49): at most 5 openings in a window, any two at least 5 ns apart.
Model's choice: log 19. -/
def Obligations.StepsKeepOpeningsSpaced : Prop :=
  ∀ s t : State, s.openingsSpaced → step s = .next t → t.openingsSpaced

/-- Every step keeps every bank's counts in range: refresh debt 0 to 7 (R88), corrected count (R17), hit streak (R56),
refresh position (R4); the part's counters: missed refreshes (R89), scrub cursor and passes (R105), a fill's entries in
flight, 0 to 3 (R112, R113), overflow and hit counts (R118), nap entries (R174); both link records (Table 8-1): replay
buffer 0 to 32 frames, control queue 0 to 64 messages, accepted-unacknowledged, retry, sent and also-since counts, and,
while the accounts balance, credits 0 to 48 and 0 to 4 (R133). Every step leaves a free Management Unit with nothing
waiting; while the accounts balance the management queue holds 0 to 8 requests (R164), and in a sound table a reply list
0 to 48 entries (R38). -/
def Obligations.StepsKeepCountsInRange : Prop :=
  (∀ s t : State, s.banksInRange → step s = .next t → t.banksInRange) ∧
  (∀ s t : State, s.countersInRange → step s = .next t → t.countersInRange) ∧
  (∀ s t : State, s.linksInRange → step s = .next t → t.linksInRange) ∧
  (∀ s t : State, s.accountsSound → s.creditsInRange → step s = .next t → t.creditsInRange) ∧
  (∀ s t : State, s.freeUnitIdle → step s = .next t → t.freeUnitIdle) ∧
  (∀ s : State, s.accountsSound → s.mgmt.queue.length ≤ 8 ∧ (s.tableSound → ∀ p, (s.port p).replies.length ≤ 48))

/-- Every step keeps the Error Record Table in order (R118, R120): at most 16 records, no two sharing a block or a
number, the next number free. Every step keeps contents, conditions and table in their canonical form: keys strictly
rising (log 4). -/
def Obligations.StepsKeepRecordsAndMapsInOrder : Prop :=
  (∀ s t : State, s.recordsDistinct → step s = .next t → t.recordsDistinct) ∧
  (∀ s t : State, s.canonical → step s = .next t → t.canonical)

/-! ### The world, supply and reset -/

/-- A cell fault worsens the condition of its block by one step and touches nothing else, in every power state (R14). -/
def Obligations.CellFaultWorsensOneStep : Prop :=
  ∀ (s : State) (block : BitVec 25), ∃ t, exec (.cellFault block) s = .next t ∧
    t.condition block.toNat =
      (match s.condition block.toNat with
        | .good => .correctable
        | .correctable => .uncorrectable
        | .uncorrectable => .uncorrectable) ∧
    (∀ b, b ≠ block.toNat → t.condition b = s.condition b) ∧ (∀ a, t.byteAt a = s.byteAt a) ∧
    t = { s with conditions := t.conditions }

/-- A reading of the 1 ms stream replaces the last temperature, sets the HOT flag at 85 or more and clears it at 80 or
less, hands a THERMAL notice to both ports when the flag changes, and is a short trigger 8 °C or more from the
calibration temperature (R93, R94, R99). The start-up reading, asked for in STARTING, decides the HOT flag without
hysteresis and without a notice, and takes the long start-up trigger (R95, R99). At any other time the command changes
nothing (log 1). -/
def Obligations.ReadingsSetTheHotFlag : Prop :=
  (∀ (s : State) (r : Int) (hot : Bool), -40 ≤ r → r ≤ 125 →
    hot = (if 85 ≤ r then true else if r ≤ 80 then false else s.maint.hot) →
    let u : State := { s with maint := { s.maint with lastTemp := r, hot := hot } }
    let v : State := if hot = s.maint.hot then u else (u.raiseNotice .a (.thermal r hot)).raiseNotice .b (.thermal r hot)
    exec (.temperatureReading r) s =
      .next (State.settle (if 8 ≤ (r - s.maint.calTemp).natAbs then v.calTrigger .short else v))) ∧
  (∀ (s : State) (r : Int), -40 ≤ r → r ≤ 125 →
    (s.power.state = .starting → s.maint.readingAsked = true →
      let u : State := { s with maint := { s.maint with lastTemp := r, hot := decide (85 ≤ r), readingAsked := false } }
      let v : State := if 8 ≤ (r - s.maint.calTemp).natAbs then u.calTrigger .short else u
      exec (.startUpReading r) s = .next (v.calTrigger .long).settle) ∧
    (s.power.state ≠ .starting ∨ s.maint.readingAsked = false → exec (.startUpReading r) s = .next s))

/-- Supply puts everything at its power-on values. With RST_N low the interval timers start with the stagger at the HOT
interval, 122.0703125 ns a step (R86, R175; the start in POWER_ON is log 7). The owner port until OWNER_SEL is sampled
is Port A (log 5), minimum-open complete is clear (log 28), and the model's own fields go on (log 4, log 15). Model's
choices: log 4, log 5, log 7, log 15, log 28. -/
def Obligations.PowerOnSetsPowerOnValues : Prop :=
  ∀ s : State,
    let t : State := { State.reset with
      now := s.now
      powerOns := s.powerOns + 1
      pending := s.pending
      portA := { State.reset.portA with tx := s.portA.tx }
      portB := { State.reset.portB with tx := s.portB.tx } }
    exec (.powerOn true) s = .next t ∧
    ∃ u, exec (.powerOn false) s = .next u ∧ u = { t with rstHigh := false, banks := u.banks } ∧
      ∀ b, u.bank b = { State.reset.bank b with intervalDue := some (s.now + (b.val + 1) * 62500) }

/-- The end of the power-on reset samples OWNER_SEL. With RST_N high the power state becomes STARTING, the nap-entry,
corrected and missed-refresh counts and the hit streaks are 0, the interval timers stop and the start-up reading is asked
for (R17, R65, R86, R89, R95, R125, R174, R176). With RST_N low HELD goes on, with the interval timers running (log 7).
The release of RST_N after a pin reset does the same, OWNER_SEL sampled again (R125, R176). During the power-on reset a
release samples OWNER_SEL, stops the timers and clears the counts and the hit streaks, and HELD goes on (log 7). -/
def Obligations.EndOfHeldStartsUp : Prop :=
  (∀ (s : State) (high : Bool), s.powerOnReset = true →
    (s.rstHigh = true → ∃ t, exec (.powerOnResetEnd high) s = .next t ∧
      t = { s with
        powerOnReset := false
        owner := if high then .b else .a
        power := { s.power with state := .starting, napCount := 0 }
        maint := { s.maint with missed := 0, readingAsked := true }
        banks := t.banks } ∧
      ∀ b, t.bank b = { s.bank b with intervalDue := none, corrected := 0, hitStreak := 0 }) ∧
    (s.rstHigh = false → ∃ t, exec (.powerOnResetEnd high) s = .next t ∧
      t = { s with powerOnReset := false, owner := if high then .b else .a, banks := t.banks } ∧
      ∀ b, t.bank b = { s.bank b with
        intervalDue := if ∀ c, (s.bank c).intervalDue = none
          then some (s.now + (b.val + 1) * (if s.maint.hot then 62500 else 125000))
          else (s.bank b).intervalDue })) ∧
  (∀ (s : State) (high : Bool), s.rstHigh = false →
    ∃ t, exec (.resetRelease high) s = .next t ∧
      (∀ b, t.bank b = { s.bank b with intervalDue := none, corrected := 0, hitStreak := 0 }) ∧
      (s.powerOnReset = false →
        t = { s with
          rstHigh := true
          owner := if high then .b else .a
          power := { s.power with state := .starting, napCount := 0 }
          maint := { s.maint with missed := 0, readingAsked := true }
          banks := t.banks }) ∧
      (s.powerOnReset = true →
        t = { s with
          rstHigh := true
          owner := if high then .b else .a
          maint := { s.maint with missed := 0 }
          banks := t.banks }))

/-- RST_N going low (R175, Table 11-3) and a RESTART taking effect, which is RST_N going low and released at once with
the owner port kept (R173): the table, the links, the votes, the fill, the scrub record, the regions, the queue and the
store return to their reset values; contents, conditions, error records, debts and refresh positions stay; the access in
flight loses its entry and the run-down begins, over at once with no bank OPENING, OPEN or CLOSING and no access in
flight (R19). Model's choices: log 10, log 11, log 15. -/
def Obligations.PinResetClearsThePart : Prop :=
  ∀ s : State,
    (∃ t : State, t = { s with
        power := { s.power with
          state := .held, idleDue := none, napDue := false, exitDue := none, timeBase := 0, tickDue := none }
        table := []
        ageCounter := 0
        portA := { State.reset.portA with tx := s.portA.tx }
        portB := { State.reset.portB with tx := s.portB.tx }
        maint := { s.maint with
          cal := (if s.calPending then .idle else s.maint.cal)
          followOn := none, calTimerDue := none, readingAsked := false }
        scrub := State.reset.scrub
        fill := none
        regions := State.reset.regions
        mgmt := ⟨[], .free⟩
        store := State.reset.store
        banks := t.banks
        runDown := t.runDown
        path := t.path } ∧
      (∀ b, t.bank b = { s.bank b with
        idleDue := none
        idleDecision := false
        intervalDue := if ∀ c, (s.bank c).intervalDue = none
          then some (s.now + (b.val + 1) * (if s.maint.hot then 62500 else 125000))
          else (s.bank b).intervalDue }) ∧
      (if s.path.flight = none ∧ ∀ b, (s.bank b).state = .closed ∨ (s.bank b).state = .refreshing then
        t.runDown = false ∧ t.path = ⟨none, none, none⟩
      else t.runDown = true ∧
        t.path = { s.path with flight := s.path.flight.map fun f : Flight => { f with slot := none } }) ∧
      (s.rstHigh = true → exec .pinResetAssert s = .next { t with rstHigh := false }) ∧
      (s.mgmt.unit = .restartDue → ∃ u, exec .restartTakesEffect s = .next u ∧
        u = { t with
          power := { t.power with state := .starting, napCount := 0 }
          maint := { t.maint with missed := 0, readingAsked := true }
          banks := u.banks } ∧
        ∀ b, u.bank b = { t.bank b with intervalDue := none, corrected := 0, hitStreak := 0 }))

/-! ### Start-up, NAP and retention -/

/-- Start-up ends with the reading taken, calibration IDLE and refresh-clear: ACTIVE, the time base counting from 0, the
step timer and the staggered interval timers started, and every PENDING link answered; WAKING ends the same way once the
calibration is IDLE, the interval timers left as they run (R86, R107, R176, R177, R185). The time base rises by 1 each
millisecond and wraps, while it counts; held, it stands (R177). Its next rise is counted from the moment of the last
(log 24). The TRAIN-REPLY's acknowledgement-valid bit is log 30. Model's choices: log 1, log 2, log 24, log 30. -/
def Obligations.StartUpAndWakingEndInActive : Prop :=
  (∀ s : State, s.maint.cal = .idle →
    let u : State := { s with
      power := { s.power with state := .active, timeBase := 0, tickDue := some (s.now + 512000000) }
      scrub := { s.scrub with
        stepDue := if s.store.scrubPeriod = 0 then none else some (s.now + stepInterval s.store.scrubPeriod)
        pendingStep := false } }
    (s.power.state = .starting → s.maint.readingAsked = false →
      (∀ b, (s.bank b).debt = 0 ∧ (s.bank b).state ≠ .refreshing) →
      ∃ v : State, v = { u with banks := v.banks } ∧
        (∀ b, v.bank b = { s.bank b with
          intervalDue := some (s.now + (b.val + 1) * (if s.maint.hot then 62500 else 125000)) }) ∧
        exec .startupEnd s = .next ((v.answerPending .a).answerPending .b).settle) ∧
    (s.power.state = .waking → exec .wakingEnd s = .next ((u.answerPending .a).answerPending .b).settle)) ∧
  (∀ s : State,
    (∀ due, s.power.tickDue = some due → exec .timeBaseTick s = .next { s with
      now := max s.now due
      power := { s.power with timeBase := s.power.timeBase + 1, tickDue := some (max s.now due + 512000000) } }) ∧
    (s.power.tickDue = none → exec .timeBaseTick s = .next s))

/-- The NAP idle timer after an event (R178): it runs, or nap due holds, exactly while the conditions hold; started in
the first event in which they hold it takes NAP-IDLE microseconds; and settling changes no bank but in its idle-close
timer and decision, and nothing else. The expiry of the NAP idle timer sets nap due; NAP begins with nap due, the
conditions of the timer and every bank CLOSED, counting the entry; the exit delay ends 20 ns after NAP (R64, R178).
Model's choice: log 2. -/
def Obligations.NapFollowsItsConditions : Prop :=
  (∀ s : State, s.settle.untimed = s.untimed ∧
    (s.napConditions = true → s.settle.power.idleDue =
      if s.power.idleDue = none ∧ s.power.napDue = false then some (s.now + 512000 * s.store.napIdle) else s.power.idleDue) ∧
    (s.napConditions = true → s.settle.power.napDue = s.power.napDue) ∧
    (s.napConditions = false → s.settle.power.idleDue = none ∧ s.settle.power.napDue = false) ∧
    (s.napConditions = true ↔ s.power.state = .active ∧ s.store.napIdle ≠ 0 ∧ s.table = [] ∧ s.maint.cal = .idle ∧
      ∀ b, (s.bank b).state = .closed ∨ (s.bank b).state = .refreshing)) ∧
  (∀ s : State,
    (∀ due, s.power.idleDue = some due → exec .napIdleTimerExpiry s =
      .next (State.settle { s with now := max s.now due, power := { s.power with idleDue := none, napDue := true } })) ∧
    (s.power.napDue = true → s.power.state = .active → s.store.napIdle ≠ 0 → s.table = [] → s.maint.cal = .idle →
      (∀ b, (s.bank b).state = .closed) → exec .napEntry s = .next { s with power := { s.power with
        state := .nap, napDue := false, napCount := min 4294967295 (s.power.napCount + 1) } }) ∧
    (∀ due, s.power.exitDue = some due → exec .napExitDelayComplete s =
      .next { s with now := max s.now due, power := { s.power with exitDue := none } }))

/-- ENTERING begins with a vote in the vote set, every ACTIVE port voting, an empty table, no fill and calibration IDLE:
the idle timer, nap due, the calibration timer and the step timer stop, NAP left starts the exit delay, and
RETAIN-ENTERING is raised on both links (R181). RETAIN is entered from ENTERING once every ACTIVE link owes nothing and
refresh-clear holds: both links SLEEP with their sessions cleared, the votes gone, no frame sent (R151, R182). -/
def Obligations.EnteringLeadsToRetain : Prop :=
  (∀ s : State, (s.power.state = .active ∨ s.power.state = .nap) → (s.portA.vote = true ∨ s.portB.vote = true) →
    (∀ p, (s.link p).state = .active → (s.port p).vote = true) → s.table = [] → s.fill = none → s.maint.cal = .idle →
    let u : State := { s with
      power := { s.power with
        state := .entering
        idleDue := none
        napDue := false
        exitDue := if s.power.state = .nap then some (s.now + 10240) else s.power.exitDue }
      maint := { s.maint with calTimerDue := none }
      scrub := { s.scrub with stepDue := none, pendingStep := false } }
    exec .enteringBegin s = .next ((u.raiseNotice .a .retainEntering).raiseNotice .b .retainEntering)) ∧
  (∀ s : State, s.power.state = .entering → (∀ p, (s.link p).state = .active → s.linkClear p = true) →
    (∀ b, (s.bank b).debt = 0 ∧ (s.bank b).state ≠ .refreshing) →
    exec .retainEntry s = .next { s with
      power := { s.power with state := .retain }
      portA := { s.portA with link := { State.reset.portA.link with state := .sleep }, vote := false }
      portB := { s.portB with link := { State.reset.portB.link with state := .sleep }, vote := false } })

/-! ### Openings, closes, refreshes -/

/-- The candidate the opening arbiter chooses (R50, R51): an urgent refresh before a row open before an opportunistic
refresh; among refreshes the bank with the larger debt, then the lower number; among row opens the row of the oldest
entry queued on a CLOSED bank. While a calibration is pending an urgent refresh alone (R52). Model's choice: log 12. -/
def Obligations.OpeningArbiterChoosesByClass : Prop :=
  ∀ s : State,
    (∀ (b : Fin 16) (o : Opening), s.openingChoice = some (b, o) → (s.bank b).state = .closed ∧
      ((o = .refresh ∧ 6 ≤ (s.bank b).debt ∧
          ∀ c, (s.bank c).state = .closed → (s.bank c).debt < (s.bank b).debt ∨ ((s.bank c).debt = (s.bank b).debt ∧ b ≤ c)) ∨
       ((∀ c, (s.bank c).state = .closed → (s.bank c).debt ≤ 5) ∧ s.calPending = false ∧
         ((∃ x ∈ s.table, x.2.queuedOn b = true ∧ o = .rowOpen (rowOf x.2.first) ∧
            ∀ y ∈ s.table, ∀ c, y.2.queuedOn c = true → (s.bank c).state = .closed → y.2.older x.2 = false) ∨
          (o = .refresh ∧ 1 ≤ (s.bank b).debt ∧
            (∀ y ∈ s.table, ∀ c, y.2.queuedOn c = true → (s.bank c).state ≠ .closed) ∧
            ∀ c, (s.bank c).state = .closed →
              (s.bank c).debt < (s.bank b).debt ∨ ((s.bank c).debt = (s.bank b).debt ∧ b ≤ c)))))) ∧
    (s.openingChoice = none → ∀ c, (s.bank c).state = .closed → (s.bank c).debt ≤ 5 ∧
      (s.calPending = false → (s.bank c).debt = 0 ∧ ∀ y ∈ s.table, y.2.queuedOn c = false))

/-- An opening is granted to the chosen candidate with fewer than 5 starts in the window, 5 ns after the last start, the
Array NORMAL and no NAP exit delay, unless a pending calibration begins its run in that event (R49, R52, R100). The
start enters both records (R48, R53); a row open makes the bank OPENING with its delays running (R5), a refresh makes it
REFRESHING and advances its refresh position (R8). Nothing is granted with no candidate, a full window, the spacing
running, the Array CALIBRATING, or the NAP exit delay running (R49, R52), or a calibration pending with every bank
CLOSED, where the run begins and an urgent refresh waits for it (R100). Model's choices: log 1, log 19, log 21. -/
def Obligations.OpeningGrantBegins : Prop :=
  (∀ (s : State) (b : Fin 16) (o : Opening), s.openingChoice = some (b, o) →
    (s.window.filter fun t => s.now < t + ns 36).length < 5 → (∀ t, s.spacing = some t → t + ns 5 ≤ s.now) →
    s.calRunDue = none → s.power.exitDue = none →
    (s.calPending = false ∨ ∃ c, (s.bank c).state ≠ .closed) →
    exec .openingGrant s = .next (State.settle { s with
      window := (s.window.filter fun t => s.now < t + ns 36) ++ [s.now]
      spacing := some s.now
      banks := s.banks.set b (match o with
        | .rowOpen row => { s.bank b with
            state := .opening, openRow := some row, minOpenDone := false, lastReadEnd := none, lastWriteEnd := none,
            openDelayDue := some (s.now + ns 16), minOpenDue := some (s.now + ns 38) }
        | .refresh => { s.bank b with
            state := .refreshing
            refreshPos := if (s.bank b).refreshPos = 32760 then 0 else (s.bank b).refreshPos + 8
            refreshDue := some (s.now + ns 120) }) })) ∧
  (∀ s : State, (s.openingChoice = none ∨ 5 ≤ (s.window.filter fun t => s.now < t + ns 36).length ∨
      (∃ t, s.spacing = some t ∧ s.now < t + ns 5) ∨ s.calRunDue ≠ none ∨ s.power.exitDue ≠ none ∨
      (s.calPending = true ∧ ∀ c, (s.bank c).state = .closed)) →
    exec .openingGrant s = .next s)

/-- The completions of a row open, of a refresh and of a close: the open delay makes the bank OPEN and the minimum open
time is marked complete (R5); a refresh makes it CLOSED and lowers its debt by 1 (R8, R88); a close makes it CLOSED with
its open row, minimum, read end and write end cleared and its hit streak 0 (R7, R55), and ends the run-down where no
other bank and no access is left to it (R10, R19). The completion of a minimum changes nothing but the present: what may
begin from then on is read from the recorded time (R3, R6, R10, R49); the oldest start leaves the window record 36 ns
after it (R48). The passing of the present to the completion is log 2. Model's choice: log 11. -/
def Obligations.BankOperationsComplete : Prop :=
  (∀ (s : State) (b : Fin 16) (due : Time),
    ((s.bank b).openDelayDue = some due → exec (.openDelayComplete b) s = .next (State.settle { s with
      now := max s.now due, banks := s.banks.set b { s.bank b with state := .opened, openDelayDue := none } })) ∧
    ((s.bank b).minOpenDue = some due → exec (.minimumOpenComplete b) s = .next { s with
      now := max s.now due, banks := s.banks.set b { s.bank b with minOpenDone := true, minOpenDue := none } }) ∧
    ((s.bank b).refreshDue = some due → exec (.refreshComplete b) s = .next (State.settle { s with
      now := max s.now due
      banks := s.banks.set b { s.bank b with state := .closed, refreshDue := none, debt := (s.bank b).debt - 1 } })) ∧
    ((s.bank b).closeDue = some due →
      let u : State := { s with
        now := max s.now due
        banks := s.banks.set b { s.bank b with
          state := .closed, openRow := none, minOpenDone := false, lastReadEnd := none, lastWriteEnd := none,
          minOpenDue := none, closeDue := none, hitStreak := 0, idleDue := none, idleDecision := false } }
      exec (.closeComplete b) s = .next (State.settle
        (if u.runDown = true ∧ u.path.flight = none ∧ ∀ c, (u.bank c).state = .closed ∨ (u.bank c).state = .refreshing
          then { u with runDown := false, path := ⟨none, none, none⟩ } else u)))) ∧
  (∀ (s : State) (b : Fin 16) (t : Time),
    ((s.bank b).lastReadEnd = some t → exec (.readToCloseComplete b) s = .next { s with now := max s.now (t + ns 6) }) ∧
    ((s.bank b).lastWriteEnd = some t →
      exec (.writeRecoveryComplete b) s = .next { s with now := max s.now (t + ns 15) }) ∧
    (∀ d, s.path.dir = some d → s.path.lastEnd = some t →
      exec .turnaroundComplete s = .next { s with now := max s.now (t + if d = .write then ns 6 else ns 2) }) ∧
    (s.spacing = some t → exec .spacingComplete s = .next { s with now := max s.now (t + ns 5) }) ∧
    (∀ rest, s.window = t :: rest →
      exec .windowSlotExpiry s = .next { s with window := rest, now := max s.now (t + ns 36) }))

/-- The close decision of an OPEN bank (R54): row miss, hit limit, idle, urgent, calibration. A close begins on an OPEN
bank that is close-ready (R6) when its close decision holds and no entry of it is in IN-UPDATE (R55), or in the run-down
without a decision (R19); otherwise nothing begins. Model's choice: log 1. -/
def Obligations.CloseBeginsOnItsDecision : Prop :=
  (∀ (s : State) (b : Fin 16), (s.bank b).state = .opened →
    (s.closeDecision b = true ↔
      ((∃ x ∈ s.table, x.2.queuedOn b = true) ∧
        ∀ x ∈ s.table, x.2.queuedOn b = true → (s.bank b).openRow ≠ some (rowOf x.2.first)) ∨
      s.store.hitLimit ≤ (s.bank b).hitStreak ∨ (s.bank b).idleDecision = true ∨ 6 ≤ (s.bank b).debt ∨
      ∃ k, s.maint.cal = .pending k)) ∧
  (∀ (s : State) (b : Fin 16),
    let ready : Prop := (s.bank b).state = .opened ∧ (s.bank b).minOpenDone = true ∧
      (∀ f, s.path.flight = some f → f.bank ≠ b) ∧ (∀ t, (s.bank b).lastReadEnd = some t → t + ns 6 ≤ s.now) ∧
      (∀ t, (s.bank b).lastWriteEnd = some t → t + ns 15 ≤ s.now) ∧
      (s.runDown = true ∨
        (s.closeDecision b = true ∧ ∀ x ∈ s.table, x.2.state = .inUpdate → bankOf x.2.first ≠ b))
    (ready → exec (.closeBegin b) s = .next (State.settle { s with banks := s.banks.set b { s.bank b with
      state := .closing, closeDue := some (s.now + ns 16), idleDue := none, idleDecision := false } })) ∧
    (¬ ready → exec (.closeBegin b) s = .next s))

/-- The idle-close timer (R57): after an event in which the bank is OPEN with an empty queue and no entry in IN-UPDATE
it runs for IDLE-CLOSE nanoseconds as the key then stands, or, at 0, the idle decision holds at once; it is cancelled
when a condition ceases; the decision holds until an entry is queued or the close begins; the expiry makes the decision
hold. While it holds no timer starts (log 29). Model's choices: log 2, log 20, log 29. -/
def Obligations.IdleCloseTimerFollowsItsConditions : Prop :=
  ∀ (s : State) (b : Fin 16),
    (s.idleCloseConditions b = true ↔ (s.bank b).state = .opened ∧ s.runDown = false ∧
      (∀ x ∈ s.table, x.2.queuedOn b = false) ∧ ∀ x ∈ s.table, x.2.state = .inUpdate → bankOf x.2.first ≠ b) ∧
    (s.idleCloseConditions b = true → (s.bank b).idleDue = none → (s.bank b).idleDecision = false →
      s.settle.bank b = if s.store.idleClose = 0 then { s.bank b with idleDecision := true }
        else { s.bank b with idleDue := some (s.now + ns s.store.idleClose) }) ∧
    (s.idleCloseConditions b = true → (s.bank b).idleDue ≠ none ∨ (s.bank b).idleDecision = true →
      s.settle.bank b = s.bank b) ∧
    (s.idleCloseConditions b = false → (s.settle.bank b).idleDue = none) ∧
    ((s.settle.bank b).idleDecision = true → (s.bank b).state = .opened ∧ ∀ x ∈ s.table, x.2.queuedOn b = false) ∧
    (∀ due, (s.bank b).idleDue = some due → exec (.idleCloseExpiry b) s = .next { s with
      now := max s.now due, banks := s.banks.set b { s.bank b with idleDue := none, idleDecision := true } })

/-- An expiry of a bank's interval timer sets its next expiry one interval on, 1,953.125 ns with HOT set and 3,906.25 ns
with it clear (R87), and raises the debt by 1; at 7 the debt stays, the refresh is missed, counted and announced to both
ports (R88, R89). Model's choices: log 2, log 24. -/
def Obligations.IntervalExpiryRaisesDebt : Prop :=
  ∀ (s : State) (b : Fin 16) (due : Time), (s.bank b).intervalDue = some due →
    let next : Time := max s.now due + if s.maint.hot then 1000000 else 2000000
    ((s.bank b).debt < 7 → exec (.intervalExpiry b) s = .next { s with
      now := max s.now due
      banks := s.banks.set b { s.bank b with intervalDue := some next, debt := (s.bank b).debt + 1 } }) ∧
    (7 ≤ (s.bank b).debt →
      let missed : Nat := min 65535 (s.maint.missed + 1)
      let u : State := { s with
        now := max s.now due
        banks := s.banks.set b { s.bank b with intervalDue := some next }
        maint := { s.maint with missed := missed } }
      exec (.intervalExpiry b) s =
        .next ((u.raiseNotice .a (.refreshMissed b missed)).raiseNotice .b (.refreshMissed b missed)))

/-! ### The column path -/

/-- What the column arbiter chooses (R60, R61): the oldest write-back not yet granted; the oldest row-hit entry over the
OPEN banks that are not blocked; nothing in HELD and in the run-down, and otherwise nothing only where no entry is in
IN-UPDATE with its write-back not granted, or where every row-hit entry is of a blocked bank. The column path allows an
access when it is free and it has no direction, the same direction, or its turnaround behind it: 6 ns after a write, 2
ns after a read (R10). Model's choice: log 12. -/
def Obligations.ColumnArbiterChoosesTheOldest : Prop :=
  (∀ (s : State) (x : Nat × Entry),
    (s.writeBackChoice = some x → x ∈ s.table ∧ x.2.state = .inUpdate ∧
      (∀ f, s.path.flight = some f → f.slot ≠ some x.1) ∧
      (∀ y ∈ s.table, y.2.state = .inUpdate → (∀ f, s.path.flight = some f → f.slot ≠ some y.1) → y.2.older x.2 = false)) ∧
    (s.firstAccessChoice = some x →
      let b : Fin 16 := bankOf x.2.first
      x ∈ s.table ∧ x.2.state = .queued ∧ (s.bank b).state = .opened ∧ (s.bank b).openRow = some (rowOf x.2.first) ∧
      (s.bank b).hitStreak < s.store.hitLimit ∧ (s.bank b).debt ≤ 5 ∧ s.calPending = false ∧
      ∀ y ∈ s.table, s.rowHit y.2 = true → s.blocked (bankOf y.2.first) = false → y.2.older x.2 = false) ∧
    (s.power.state = .held ∨ s.runDown = true → s.writeBackChoice = none ∧ s.firstAccessChoice = none) ∧
    (s.power.state ≠ .held → s.runDown = false →
      (s.writeBackChoice = none → ∀ y ∈ s.table, y.2.state = .inUpdate → ∃ f, s.path.flight = some f ∧ f.slot = some y.1) ∧
      (s.firstAccessChoice = none → ∀ y ∈ s.table,
        let b : Fin 16 := bankOf y.2.first
        y.2.state = .queued → (s.bank b).state = .opened → (s.bank b).openRow = some (rowOf y.2.first) →
          s.store.hitLimit ≤ (s.bank b).hitStreak ∨ 6 ≤ (s.bank b).debt ∨ s.calPending = true))) ∧
  (∀ (s : State) (d : Direction), s.pathAllows d = true ↔ s.path.flight = none ∧
    (s.path.dir = none ∨ s.path.dir = some d ∨
      ∃ e, s.path.dir = some e ∧ ∀ t, s.path.lastEnd = some t → t + (if e = .write then ns 6 else ns 2) ≤ s.now))

/-- A first access is granted when no write-back is a candidate and the path allows it: the entry goes to IN-ACCESS, the
hit streak rises past an older row-miss entry of the bank's queue and is 0 otherwise, and the access is in flight (R37,
R56, R61, R62). While a write-back is a candidate none is granted. A write-back is granted when the path allows a write:
the entry stays in IN-UPDATE and its write is in flight (R61, R63). Model's choice: log 1. -/
def Obligations.ColumnGrantsStartTheAccess : Prop :=
  (∀ s : State,
    (∀ (k : Nat) (e : Entry), s.writeBackChoice = none → s.firstAccessChoice = some (k, e) →
      s.pathAllows e.firstDirection = true →
      let b : Fin 16 := bankOf e.first
      ∃ streak, ((∃ x ∈ s.table, x.2.queuedOn b = true ∧ x.2.older e = true ∧ some (rowOf x.2.first) ≠ (s.bank b).openRow) →
          streak = min 64 ((s.bank b).hitStreak + 1)) ∧
        ((∀ x ∈ s.table, x.2.queuedOn b = true → x.2.older e = true → some (rowOf x.2.first) = (s.bank b).openRow) →
          streak = 0) ∧
        exec .firstAccessGrant s = .next (State.settle { s with
          table := Sparse.insert s.table k { e with state := .inAccess }
          banks := s.banks.set b { s.bank b with hitStreak := streak }
          path := { s.path with flight := some (firstFlight s.now k e) } })) ∧
    (s.writeBackChoice ≠ none → exec .firstAccessGrant s = .next s)) ∧
  (∀ (s : State) (k : Nat) (e : Entry), s.writeBackChoice = some (k, e) →
    (s.pathAllows .write = true →
      exec .writeBackGrant s = .next { s with path := { s.path with flight := some (writeBackFlight s.now k e) } }) ∧
    (s.pathAllows .write = false → exec .writeBackGrant s = .next s))

/-- The access of a grant (R11, R12, R62, R63): a read of the whole range, ending 12 + 2n ns later, for READ, ATOMIC,
SCRUB and a MASKED-WRITE with a partial block; a write for WRITE and FILL of the whole range, for any other MASKED-WRITE
of its full blocks, ending 2 ns a block later; a write-back of the write-back set. -/
def Obligations.AccessesTakeTheirBlocks : Prop :=
  ∀ (now : Time) (k : Nat) (e : Entry),
    ((e.kind = .read ∨ e.kind = .scrub ∨ (∃ op o a b, e.kind = .atomic op o a b) ∨
        ∃ masks, e.kind = .maskedWrite masks ∧ ∃ m ∈ masks, m ≠ 0#32 ∧ m ≠ BitVec.allOnes 32) →
      firstFlight now k e = ⟨some k, bankOf e.first, .read, e.first, e.count, [], now + ns (12 + 2 * e.count)⟩) ∧
    (e.kind = .write ∨ e.kind = .fill →
      firstFlight now k e = ⟨some k, bankOf e.first, .write, e.first, e.count,
        (List.range e.count).map fun i => (e.first + i, e.data.getD i []), now + ns (2 * e.count)⟩) ∧
    (∀ masks, e.kind = .maskedWrite masks → (∀ m ∈ masks, m = 0#32 ∨ m = BitVec.allOnes 32) →
      let full : List Nat := (List.range masks.length).filter fun i => masks.getD i 0#32 = BitVec.allOnes 32
      firstFlight now k e = ⟨some k, bankOf e.first, .write, e.first, e.count,
        full.map fun i => (e.first + i, e.data.getD i []), now + ns (2 * full.length)⟩) ∧
    writeBackFlight now k e = ⟨some k, bankOf e.first, .write, e.first, e.count,
      e.writeBack.map fun i => (e.first + i, e.data.getD i []), now + ns (2 * e.writeBack.length)⟩

/-- The end of a read transfer (R11, R15, R17, R67): the path and the bank record it, the blocks are taken as they
stand, the bank's corrected count rises by the CORRECTED ones, the poisoned blocks the kind reports are reported in
column order, and the entry goes to IN-UPDATE with a write-back set or becomes DONE without one. No block's contents or
condition changes. In the run-down nobody is handed the blocks and no count rises (R17, R19). Model's choices: log 2,
log 11. -/
def Obligations.ReadTransferEndHandsTheBlocksOn : Prop :=
  ∀ (s : State) (f : Flight), s.path.flight = some f → f.dir = .read →
    let blocks : List ReadBlock := (List.range f.count).map fun i =>
      match s.condition (f.first + i) with
      | .good => ⟨.ok, (List.range 32).map fun j => s.byteAt (32 * (f.first + i) + j)⟩
      | .correctable => ⟨.corrected, (List.range 32).map fun j => s.byteAt (32 * (f.first + i) + j)⟩
      | .uncorrectable => ⟨.poisoned, List.replicate 32 0#8⟩
    let count : Nat := (blocks.filter fun b => decide (b.cls = .corrected)).length
    let u : State := { s with now := max s.now f.due, path := ⟨none, some .read, some (max s.now f.due)⟩ }
    (f.slot = none → exec .readTransferEnd s = .next ({ u with
      banks := s.banks.set f.bank { s.bank f.bank with lastReadEnd := some (max s.now f.due) } } : State).settleRunDown.finish) ∧
    (∀ k e, f.slot = some k → s.entry k = some e →
      let v : State := { u with banks := s.banks.set f.bank { s.bank f.bank with
        lastReadEnd := some (max s.now f.due), corrected := min 65535 ((s.bank f.bank).corrected + count) } }
      let e' : Entry := e.afterRead s.store.correctOnRead blocks
      let w : State := (e.reportedPositions e'.classes).foldl (fun x i => x.takeReport e.source (e.first + i)) v
      exec .readTransferEnd s = .next (State.finish
        (if e'.writeBack = [] then w.entryDone k e' else w.setEntry k { e' with state := .inUpdate })))

/-- What a READ and a SCRUB keep of their blocks (R69, R70, R110): the classification, the data, the overall status,
POISONED before CORRECTED before OK, and as write-back set the CORRECTED blocks, of a READ only with CORRECT-ON-READ on.
Their POISONED blocks are reported. The source of a report is the kind of the entry and, of a READ, its port, orphan or
not (R68, R110). -/
def Obligations.ReadsClassifyTheirBlocks : Prop :=
  (∀ (e : Entry) (on : Bool) (blocks : List ReadBlock), (e.kind = .read ∨ e.kind = .scrub) →
    let classes : List ReadClass := blocks.map fun b => b.cls
    let e' : Entry := e.afterRead on blocks
    e' = { e with classes := classes, data := blocks.map fun b => b.data, writeBack := e'.writeBack, status := e'.status } ∧
    (e'.status = some .poisoned ↔ .poisoned ∈ classes) ∧
    (e'.status = some .corrected ↔ .poisoned ∉ classes ∧ .corrected ∈ classes) ∧
    (e'.status = some .ok ↔ .poisoned ∉ classes ∧ .corrected ∉ classes) ∧
    (e'.writeBack = if e.kind = .read ∧ on = false then []
      else (List.range classes.length).filter fun i => classes[i]? = some .corrected) ∧
    e.reportedPositions classes = (List.range classes.length).filter fun i => classes[i]? = some .poisoned) ∧
  (∀ e : Entry,
    (∀ p tag n o, e.owner = .port p tag n o → e.kind = .read →
      e.source = match p with | .a => .portARead | .b => .portBRead) ∧
    (∀ masks, e.kind = .maskedWrite masks → e.source = .maskedWrite) ∧
    (∀ op offset a b, e.kind = .atomic op offset a b → e.source = .atomic) ∧
    (e.kind = .scrub → e.source = .scrub))

/-- What a two-phase MASKED-WRITE builds at the end of its read (R75, R77, R78, R79): the write-back set holds every
full block and every partial block that was not POISONED; a written block takes the enabled lanes from the request and
the others as read; a partial block that was POISONED is skipped and reported; the status is POISONED with a skipped
block, otherwise CORRECTED with a partial block CORRECTED, otherwise OK. -/
def Obligations.MaskedWriteMergesItsBlocks : Prop :=
  ∀ (e : Entry) (on : Bool) (blocks : List ReadBlock) (masks : List (BitVec 32)), e.kind = .maskedWrite masks →
    masks.length = blocks.length → e.count = blocks.length →
    let e' : Entry := e.afterRead on blocks
    let isFull : Nat → Prop := fun i => masks[i]? = some (BitVec.allOnes 32)
    let isPartial : Nat → Prop := fun i => ∃ m, masks[i]? = some m ∧ m ≠ 0#32 ∧ m ≠ BitVec.allOnes 32
    let wasPoisoned : Nat → Prop := fun i => ∃ b, blocks[i]? = some b ∧ b.cls = .poisoned
    let wasCorrected : Nat → Prop := fun i => ∃ b, blocks[i]? = some b ∧ b.cls = .corrected
    e'.classes = (blocks.map fun b => b.cls) ∧ e'.kind = e.kind ∧
    (∀ i, i ∈ e'.writeBack ↔ isFull i ∨ (isPartial i ∧ ¬ wasPoisoned i)) ∧
    (∀ i, i ∈ e'.skipped ↔ isPartial i ∧ wasPoisoned i) ∧ e.reportedPositions e'.classes = e'.skipped ∧
    (∀ (i : Nat) (m : BitVec 32) (b : ReadBlock), i ∈ e'.writeBack → masks[i]? = some m → blocks[i]? = some b →
      (∀ j, j < 32 → m.getLsbD j = true → (e'.data.getD i []).getD j 0#8 = (e.data.getD i []).getD j 0#8) ∧
      (∀ j, j < 32 → m.getLsbD j = false → (e'.data.getD i []).getD j 0#8 = b.data.getD j 0#8)) ∧
    (e'.status = some .poisoned ↔ ∃ i, isPartial i ∧ wasPoisoned i) ∧
    (e'.status = some .corrected ↔ (¬ ∃ i, isPartial i ∧ wasPoisoned i) ∧ ∃ i, isPartial i ∧ wasCorrected i) ∧
    (e'.status = some .ok ↔ (¬ ∃ i, isPartial i ∧ wasPoisoned i) ∧ ¬ ∃ i, isPartial i ∧ wasCorrected i)

/-- The new value of an ATOMIC (R81). What an ATOMIC keeps of its block (R80 to R83): of a POISONED one no old value and
nothing to write, the block reported; otherwise the old value, the 8 bytes at the offset least significant first, and
the block with those bytes replaced by the new value, written back unless a COMPARE-SWAP failed on a block classified
OK. -/
def Obligations.AtomicReplacesItsOperand : Prop :=
  (∀ old a b : BitVec 64,
    (atomicNew .fetchAdd old a b).toNat = (old.toNat + a.toNat) % 2 ^ 64 ∧ atomicNew .swap old a b = a ∧
    (old = a → atomicNew .compareSwap old a b = b) ∧ (old ≠ a → atomicNew .compareSwap old a b = old) ∧
    (∀ i, (atomicNew .fetchAnd old a b).getLsbD i = (old.getLsbD i && a.getLsbD i)) ∧
    (∀ i, (atomicNew .fetchOr old a b).getLsbD i = (old.getLsbD i || a.getLsbD i))) ∧
  (∀ (e : Entry) (on : Bool) (op : AtomicOp) (offset : Nat) (a b : BitVec 64) (d : List Byte) (c : ReadClass),
    e.kind = .atomic op offset a b → d.length = 32 → offset + 8 ≤ 32 →
    let e' : Entry := e.afterRead on [⟨c, d⟩]
    (c = .poisoned →
      e' = { e with classes := [.poisoned], status := some .poisoned, writeBack := [], oldValue := none } ∧
      e.reportedPositions e'.classes = [0]) ∧
    (c ≠ .poisoned → ∃ old : BitVec 64, (∀ i, i < 8 → d.getD (offset + i) 0#8 = (old >>> (8 * i)).setWidth 8) ∧
      ∃ block : List Byte, block.length = 32 ∧
        (∀ i, i < 8 → block.getD (offset + i) 0#8 = (atomicNew op old a b >>> (8 * i)).setWidth 8) ∧
        (∀ i, i < offset ∨ offset + 8 ≤ i → block.getD i 0#8 = d.getD i 0#8) ∧
        e' = { e with
          classes := [c], status := some c, data := [block], oldValue := some old
          writeBack := if op = .compareSwap ∧ old ≠ a ∧ c = .ok then [] else [0] } ∧
        e.reportedPositions e'.classes = []))

/-- The end of a write transfer (R12, R16, R22, R122): every block of the set takes its bytes and becomes GOOD, every other
byte and condition is as before, the records that name a written block are marked rewritten, the path and the bank
record the end, and the entry becomes DONE, its write-back set gone; a write whose entry a reset discarded stores its data
all the same (R19).
Model's choices: log 2, log 11. -/
def Obligations.WriteTransferEndStoresTheBlocks : Prop :=
  ∀ (s : State) (f : Flight), s.path.flight = some f → f.dir = .write →
    ∃ u : State,
      (∀ a, u.byteAt a = match f.writes.reverse.find? fun w => w.1 = a / 32 with
        | some w => w.2.getD (a % 32) 0#8
        | none => s.byteAt a) ∧
      (∀ b, u.condition b = if b ∈ f.writes.map (fun w => w.1) then .good else s.condition b) ∧
      u = { s with
        now := max s.now f.due
        contents := u.contents
        conditions := u.conditions
        errors := { s.errors with records := s.errors.records.map fun r =>
          if r.block ∈ f.writes.map (fun w => w.1) then { r with rewritten := true } else r }
        path := ⟨none, some .write, some (max s.now f.due)⟩
        banks := s.banks.set f.bank { s.bank f.bank with lastWriteEnd := some (max s.now f.due) } } ∧
      (f.slot = none → exec .writeTransferEnd s = .next u.settleRunDown.finish) ∧
      (∀ k e, f.slot = some k → s.entry k = some e → exec .writeTransferEnd s = .next (u.entryDone k
        (if e.state = .inUpdate then { e with writeBack := [] }
          else if e.kind = .fill then e
          else { e with classes := List.replicate e.count .ok, status := some .ok })).finish)

/-- An entry that becomes DONE (R37, R38, R39, R43): a live port entry joins the tail of its port's reply list; an
orphan's slot is freed and the credit goes to its port, the holds worked out afresh; a SCRUB is freed and a pending step
taken (R109). A FILL is freed and counted: of three in flight the next is created at the cursor while the fill runs
below its end (R113, R114); with others left the fill goes on; the last one of a complete range removes the record,
releases the holds, takes a pending step and raises FILL-DONE on the port of the fill (R115); the last one of an
ABORTING fill removes it so and answers the abort, if it waits, with the cursor (R116). A BARRIER admitted with an older
entry of its port and session in the table is HELD; with none it is DONE at once and at the tail of its port's reply
list (R31, R33, R36, R38). -/
def Obligations.DoneEntriesJoinTheReplyList : Prop :=
  (∀ (s : State) (k : Nat) (e : Entry),
    (∀ p tag n, e.owner = .port p tag n false → s.entryDone k e = State.setPort
      { s with table := Sparse.insert s.table k { e with state := .done } } p
      { s.port p with replies := (s.port p).replies ++ [k] }) ∧
    (∀ p tag n, e.owner = .port p tag n true → ∀ x, s.entry k = some x → x.owner = e.owner →
      s.entryDone k e = (State.returnCredit { s with table := Sparse.erase s.table k } p .memory).reevaluate) ∧
    (e.owner = .maintenance → e.kind = .scrub →
      s.entryDone k e = (State.reevaluate { s with table := Sparse.erase s.table k }).takePendingStep) ∧
    (∀ f, e.owner = .maintenance → e.kind = .fill → s.fill = some f →
      let u : State := { s with table := Sparse.erase s.table k }
      let done : State := State.takePendingStep (State.reevaluate { u with fill := none })
      (f.aborting = false → f.cursor < f.first + f.count → f.inFlight = 3 → u.heldByMaintenance < 4 →
        ∃ (j : Nat) (x : Entry), 96 ≤ j ∧ j < 100 ∧ u.entry j = none ∧ (∀ i, 96 ≤ i → i < j → u.entry i ≠ none) ∧
          x = ⟨.maintenance, .fill, f.cursor, 8, List.replicate 8 (List.replicate 4 (leBytes 8 f.pattern.toNat)).flatten,
            f.age, x.state, x.holds, [], [], none, none⟩ ∧
          x.holds = holdsOf u.table (some { f with inFlight := 2 }) x ∧
          (x.state = if x.holds.isEmpty then .queued else .held) ∧
          s.entryDone k e = State.reevaluate { u with
            table := Sparse.insert u.table j x
            fill := some { f with cursor := f.cursor + 8 }
            power := if s.power.state = .nap then { s.power with state := .active, exitDue := some (s.now + ns 20) }
              else s.power }) ∧
      (f.aborting = true ∨ f.first + f.count ≤ f.cursor → 2 ≤ f.inFlight →
        s.entryDone k e = State.reevaluate { u with fill := some { f with inFlight := f.inFlight - 1 } }) ∧
      (f.aborting = false → f.cursor = f.first + f.count → f.inFlight = 1 →
        s.entryDone k e = done.raiseNotice f.port (.fillDone f.first f.count)) ∧
      (f.aborting = true → f.inFlight = 1 →
        (f.abortReply = none → s.entryDone k e = done) ∧
        (∀ p tag, f.abortReply = some (p, tag) → (done.link p).state = .active → (done.link p).control.length < 64 →
          s.entryDone k e = done.setLink p { done.link p with
            control := (done.link p).control ++ [okReply tag 24 (BitVec.ofNat 32 f.cursor) 0 []]
            ackDue := some ((done.link p).ackDue.getD (s.now + us 1))
            mgmtPend := (done.link p).mgmtPend + 1 })))) ∧
  (∀ (s : State) (p : Port) (tag : Byte) (k : Nat), s.entry k = none → s.agesSound →
    let t : State := s.admission p tag .barrier k
    ∃ e : Entry, t.entry k = some e ∧ e.kind = .barrier ∧ e.owner = .port p tag (s.port p).session false ∧
      e.age = s.ageCounter ∧ t.ageCounter = s.ageCounter + 1 ∧ (∀ j, j ≠ k → t.entry j = s.entry j) ∧
      ((∃ x ∈ s.table, ∃ u o, x.2.owner = .port p u (s.port p).session o) →
        e.state = .held ∧ (t.port p).replies = (s.port p).replies) ∧
      ((¬ ∃ x ∈ s.table, ∃ u o, x.2.owner = .port p u (s.port p).session o) →
        e.state = .done ∧ (t.port p).replies = (s.port p).replies ++ [k]))

/-- The taking of a report (R119 to R121, Table 6-5): a record that names the block counts a hit, and, marked rewritten,
is cleared of the mark and announced again; a new block takes a record at the tail, with the next number, a hit count of
1 and the time base, or, with 16 records, raises the overflow count; both ports are handed the notice. -/
def Obligations.ReportsAreRecorded : Prop :=
  ∀ (s : State) (source : Source) (block : Nat),
    (∀ r, s.errors.records.find? (fun x => x.block = block) = some r →
      let u : State := { s with errors := { s.errors with records := s.errors.records.map fun x =>
        if x.block = block then { x with hits := min 65535 (x.hits + 1), rewritten := false } else x } }
      let n : Notice := .uncorrectable block source .repeated r.number s.errors.records.length s.errors.overflow
      s.takeReport source block = if r.rewritten then (u.raiseNotice .a n).raiseNotice .b n else u) ∧
    ((∀ r ∈ s.errors.records, r.block ≠ block) → s.errors.records.length < 16 →
      let n : Notice := .uncorrectable block source .new s.errors.nextNumber (s.errors.records.length + 1) s.errors.overflow
      ∃ u : State, s.takeReport source block = (u.raiseNotice .a n).raiseNotice .b n ∧
        u = { s with errors := { s.errors with
          records := s.errors.records ++ [⟨s.errors.nextNumber, block, source, s.power.timeBase, 1, false⟩]
          nextNumber := u.errors.nextNumber } } ∧
        (∀ r ∈ u.errors.records, r.number ≠ u.errors.nextNumber) ∧
        ∃ j, u.errors.nextNumber = (s.errors.nextNumber + 1 + j) % 65536 ∧
          ∀ i, i < j → ∃ r ∈ u.errors.records, r.number = (s.errors.nextNumber + 1 + i) % 65536) ∧
    ((∀ r ∈ s.errors.records, r.block ≠ block) → 16 ≤ s.errors.records.length →
      let u : State := { s with errors := { s.errors with overflow := min 65535 (s.errors.overflow + 1) } }
      let n : Notice := .uncorrectable block source .notRecorded 0 s.errors.records.length u.errors.overflow
      s.takeReport source block = (u.raiseNotice .a n).raiseNotice .b n)

/-! ### Calibration and scrub steps -/

/-- A calibration trigger against the record (R97), discarded in ENTERING, RETAIN and HELD (R103); one that makes the
state pending ends NAP, with the exit delay of 20 ns (R100, R179). The calibration timer's expiry is a short trigger,
and the timer stops (R98); a run begins with a calibration pending and every bank CLOSED, records the last temperature
and starts the timer for 100 ms, and lasts 100 ns or 600 ns (R9, R100); its completion records the time base and leaves
IDLE, or the follow-on pending (R101). Model's choices: log 1, log 2. -/
def Obligations.CalibrationFollowsItsTriggers : Prop :=
  (∀ (s : State) (k : CalKind),
    (s.power.state = .entering ∨ s.power.state = .retain ∨ s.power.state = .held → s.calTrigger k = s) ∧
    (s.power.state ≠ .entering → s.power.state ≠ .retain → s.power.state ≠ .held →
      (s.maint.cal = .idle → s.calTrigger k = { s with
        maint := { s.maint with cal := .pending k }
        power := if s.power.state = .nap then { s.power with state := .active, exitDue := some (s.now + ns 20) }
          else s.power }) ∧
      (∀ j, s.maint.cal = .pending j → s.calTrigger k = { s with
        maint := { s.maint with cal := .pending (if k = .long then .long else j) } }) ∧
      (∀ j, s.maint.cal = .running j → s.calTrigger k = { s with
        maint := { s.maint with followOn :=
          if k = .long then some .long
          else if j = .short ∧ s.maint.followOn = none then some .short else s.maint.followOn } }))) ∧
  (∀ s : State,
    (∀ due, s.maint.calTimerDue = some due → exec .calibrationTimerExpiry s = .next (State.settle (State.calTrigger
      { s with now := max s.now due, maint := { s.maint with calTimerDue := none } } .short))) ∧
    (∀ k, s.maint.cal = .pending k → (∀ b, (s.bank b).state = .closed) → exec .calibrationRunBegin s = .next { s with
      maint := { s.maint with
        cal := .running k, calTemp := s.maint.lastTemp, calTimerDue := some (s.now + ms 100) }
      calRunDue := some (s.now + if k = .long then ns 600 else ns 100) }) ∧
    (∀ b, (s.bank b).state ≠ .closed → exec .calibrationRunBegin s = .next s) ∧
    (∀ due, s.calRunDue = some due → exec .calibrationRunComplete s = .next (State.settle { s with
      now := max s.now due
      calRunDue := none
      maint := { s.maint with
        lastCompletion := s.power.timeBase
        followOn := none
        cal := match s.maint.followOn with
          | none => .idle
          | some k => .pending k } })))

/-- The step interval is the period divided by the 4,194,304 groups (R106, Table 6-1): 0.858306884765625 ms, 20.599365234375
ms and 144.195556640625 ms for 1, 24 and 168 hours. The expiry of the step timer starts it again for one step interval
(R107). With no SCRUB entry in the table, no fill
and a FREE maintenance slot a step is taken: a SCRUB entry of the group at the cursor, with a new age, in the lowest
FREE slot, and the cursor advances, from the last group to 0 with the pass count up by 1 (R21, R30, R108); NAP ends
(R29, R179). Otherwise the pending step is set. A pending step is taken under the same conditions in the events of R109,
and is cleared, the timer left as it runs; under any other it stays as it is. Model's choices: log 2, log 24. -/
def Obligations.StepTimerExpiryTakesAStep : Prop :=
  (∀ hours : Nat, stepInterval hours * 4194304 = hours * 3600000 * 512000000) ∧
  (stepInterval 1 * 1000000000000000 = 858306884765625 * 512000000 ∧
    stepInterval 24 * 1000000000000 = 20599365234375 * 512000000 ∧
    stepInterval 168 * 1000000000000 = 144195556640625 * 512000000) ∧
  (∀ s : State,
    let allowed : Prop := (∀ x ∈ s.table, x.2.kind ≠ .scrub) ∧ s.fill = none ∧ s.heldByMaintenance < 4
    let barred : Prop := (∃ x ∈ s.table, x.2.kind = .scrub) ∨ s.fill ≠ none
    let taken : Time → Option Time → Bool → State → Prop := fun now due pendingStep t =>
      ∃ (k : Nat) (e : Entry), 96 ≤ k ∧ k < 100 ∧ s.entry k = none ∧ (∀ j, 96 ≤ j → j < k → s.entry j ≠ none) ∧
        e = ⟨.maintenance, .scrub, 8 * s.scrub.cursor, 8, [], s.ageCounter, e.state, e.holds, [], [], none, none⟩ ∧
        e.holds = holdsOf s.table none e ∧ (e.state = if e.holds.isEmpty then .queued else .held) ∧
        t = { s with
          now := now
          ageCounter := s.ageCounter + 1
          table := Sparse.insert s.table k e
          power := if s.power.state = .nap then { s.power with state := .active, exitDue := some (now + ns 20) } else s.power
          scrub := {
            stepDue := due
            pendingStep := pendingStep
            cursor := if s.scrub.cursor = 4194303 then 0 else s.scrub.cursor + 1
            passes := if s.scrub.cursor = 4194303 then min 65535 (s.scrub.passes + 1) else s.scrub.passes } }
    (∀ due, s.scrub.stepDue = some due →
      let now : Time := max s.now due
      let next : Option Time := some (now + stepInterval s.store.scrubPeriod)
      (allowed → ∃ t, taken now next s.scrub.pendingStep t ∧ exec .stepTimerExpiry s = .next t.settle) ∧
      (barred → exec .stepTimerExpiry s = .next (State.settle
        { s with now := now, scrub := { s.scrub with stepDue := next, pendingStep := true } }))) ∧
    (s.scrub.pendingStep = true → allowed → ∃ t, taken s.now s.scrub.stepDue false t ∧ s.takePendingStep = t) ∧
    (s.scrub.pendingStep = false ∨ barred → s.takePendingStep = s))

/-! ### Rights and hold rules -/

/-- The governing rights of a port over a granule are those of the lowest-numbered enabled slot that covers it, and with
no such slot the port's default rights (R127 to R129). -/
def Obligations.LowestCoveringSlotGoverns : Prop :=
  ∀ (s : State) (p : Port) (g : Nat),
    (∀ (i : Fin 8) (r : Region), s.regions[i] = some r → r.first ≤ g → g < r.first + r.count →
      (∀ (j : Fin 8) (q : Region), j < i → s.regions[j] = some q → ¬ (q.first ≤ g ∧ g < q.first + q.count)) →
      s.rightsOver p g = match p with | .a => r.rightsA | .b => r.rightsB) ∧
    ((∀ (i : Fin 8) (r : Region), s.regions[i] = some r → ¬ (r.first ≤ g ∧ g < r.first + r.count)) →
      s.rightsOver p g = match p with | .a => s.store.defaultRightsA | .b => s.store.defaultRightsB)

/-- The hold rules (R24, R32 to R34): HAZARD behind an older entry that shares a block, unless both are READs; BARRIER
behind an older BARRIER of the same port and session, and of a BARRIER behind every older entry of them; FILL behind a
running fill older than the entry, for a block of its range at or above the cursor. Model's choice: log 12. -/
def Obligations.HoldReasonsAreTheRules : Prop :=
  ∀ (table : List (Nat × Entry)) (fill : Option Fill) (e : Entry),
    ((holdsOf table fill e).hazard = true ↔ ∃ x ∈ table, x.2.older e = true ∧
      (∃ b, x.2.first ≤ b ∧ b < x.2.first + x.2.count ∧ e.first ≤ b ∧ b < e.first + e.count) ∧
      ¬ (x.2.kind = .read ∧ e.kind = .read)) ∧
    ((holdsOf table fill e).barrier = true ↔ ∃ x ∈ table, x.2.older e = true ∧
      (∃ p t u n o r, x.2.owner = .port p t n o ∧ e.owner = .port p u n r) ∧ (x.2.kind = .barrier ∨ e.kind = .barrier)) ∧
    ((holdsOf table fill e).fill = true ↔ ∃ f, fill = some f ∧ f.age < e.age ∧
      ∃ b, e.first ≤ b ∧ b < e.first + e.count ∧ f.cursor ≤ b ∧ b < f.first + f.count) ∧
    (∀ x : Entry, x.older e = true ↔ x.age < e.age ∨ (x.age = e.age ∧ x.first < e.first))

/-! ### Frames from a processor -/

/-- A frame's encoding and decoding agree (R134): each well-formed command that is a frame is decoded from the frame it
is sent as, every field at every value. -/
def Obligations.FramesDecodeAsTheyAreEncoded : Prop :=
  ∀ (i : Instr) (bytes : List Byte), i.wellFormed = true → encodeFrame i = some bytes → ∃ p, decodeFrame p bytes = i

/-- An accepted memory request that passes every check is admitted (R27, R137, R139, R144, R161 to R163): the frame
accepted, its credit taken and at 16 unacknowledged an ACK frame sent, an entry in the lowest FREE slot of the port's
partition with an age of its own and its hold reasons worked out, QUEUED with none, a BARRIER with none DONE and at the
tail of its port's reply list (R31, R36, R38); NAP ends and the port's vote goes with a notice (R29, R179, R180). A
management request in a MSG frame arrives as its row does, whatever its frame's number and acknowledgement (log 8), and
one that passes every check joins the queue, which a free unit takes at the event's end (R163, R164; log 9). Model's
choices: log 8, log 9, log 31. -/
def Obligations.MemoryRequestsAreAdmitted : Prop :=
  (∀ (s : State) (p : Port) (seq ackSeq : Byte) (v : Bool) (body : List Byte) (r : MemRequest) (k : Nat),
    s.receives p = true → body.length ≤ 300 → (s.takeAck p ackSeq v).receives p = true →
    let u : State := s.takeAck p ackSeq v
    seq = (u.link p).expected → parseBody body = .memory r → (u.link p).memOut ≠ 0 →
    u.tagInUse p (body.getD 1 0#8) = false →
    (∀ first count, memRange r = some (first, count) →
      first < 33554432 ∧ first % 64 + count ≤ 64 ∧ memAllowed r (u.rightsOver p (first / 2048)) = true) →
    u.power.state ≠ .entering → u.freeSlot (partitionStart p) 48 = some k → s.freeUnitIdle →
    ∃ e : Entry,
      e = ⟨.port p (body.getD 1 0#8) (u.port p).session false, memEntryKind r, ((memRange r).getD (0, 0)).1,
        ((memRange r).getD (0, 0)).2, memData r, u.ageCounter, e.state, e.holds, [], [], none, none⟩ ∧
      e.holds = holdsOf u.table u.fill e ∧
      (e.state = if e.holds.isEmpty = false then .held else if r = .barrier then .done else .queued) ∧
      let accepted : PortRec := (u.port p).accepting u.now (some .memory)
      let t : State := State.setPort
        { u with
          ageCounter := u.ageCounter + 1
          table := Sparse.insert u.table k e
          power := if u.power.state = .nap then { u.power with state := .active, exitDue := some (u.now + ns 20) }
            else u.power }
        p { accepted with replies := if e.state = .done then accepted.replies ++ [k] else accepted.replies }
      exec (.msg p seq ackSeq v body) s = .next (State.settle (if (u.port p).vote = true
        then (t.setVote p false).raiseNotice (otherPort p) (.retainVote false) else t))) ∧
  (∀ (s : State) (p : Port) (seq ackSeq : Byte) (v : Bool) (body : List Byte) (q : MgmtRequest),
    s.receives p = true → body.length ≤ 300 → (s.takeAck p ackSeq v).receives p = true →
    let u : State := s.takeAck p ackSeq v
    let tag : Byte := body.getD 1 0#8
    let block : BitVec 32 := BitVec.ofNat 32 (leNat ((body.drop 4).take 4))
    seq = (u.link p).expected → parseBody body = .management q →
      exec (.msg p seq ackSeq v body) s = u.requestArrives p tag block q ∧
      (u.tagInUse p tag = false → u.requestArrives p tag block q = u.requestArrives p tag 0 q ∧
        ((u.link p).mgmtOut ≠ 0 → exec (.msg p seq ackSeq v body) s = .next (State.finish (State.setPort
          { u with mgmt := { u.mgmt with queue := u.mgmt.queue ++ [⟨p, tag, q⟩] } } p
          ((u.port p).accepting u.now (some .management)))))))

/-- A message that fails a check is answered with a REFUSED at the tail of the control queue, its credit back in pending
return after any ACK frame that its acceptance sends (R27, R137, R139, R144, R159, R161; log 31): BAD-FORMAT for an
unknown kind or a wrong form, TAG-IN-USE, BAD-ADDRESS, ACCESS-DENIED, POWER in ENTERING. It takes no slot and no age,
removes no vote and does not end NAP. A placement into a control queue that holds 64 messages is not made and takes the
link down with QUEUE-OVERRUN, refusal and credit discarded with the session (R146, R161); on a link that is not ACTIVE a
message placed is discarded (log 23). Model's choices: log 23, log 31. -/
def Obligations.FailingMessagesAreRefused : Prop :=
  (∀ (s : State) (p : Port) (seq ackSeq : Byte) (v : Bool) (body : List Byte) (code : Nat),
    s.receives p = true → body.length ≤ 300 → (s.takeAck p ackSeq v).receives p = true →
    let u : State := s.takeAck p ackSeq v
    let l : Link := u.link p
    let m : Parsed := parseBody body
    let accepted : PortRec := (u.port p).accepting u.now m.creditClass
    let a : Link := accepted.link
    seq = l.expected →
    (m.creditClass = some .memory → l.memOut ≠ 0) → (m.creditClass = some .management → l.mgmtOut ≠ 0) →
    (((m = .unknownKind ∨ ∃ c, m = .malformed c) ∧ code = 3) ∨
     (((∃ r, m = .memory r) ∨ ∃ r, m = .management r) ∧ u.tagInUse p (body.getD 1 0#8) = true ∧ code = 4) ∨
     (∃ r, m = .memory r ∧ u.tagInUse p (body.getD 1 0#8) = false ∧
      ((∃ first count, memRange r = some (first, count) ∧ (33554432 ≤ first ∨ 64 < first % 64 + count) ∧ code = 5) ∨
       (∃ first count, memRange r = some (first, count) ∧ first < 33554432 ∧ first % 64 + count ≤ 64 ∧
        memAllowed r (u.rightsOver p (first / 2048)) = false ∧ code = 6) ∨
       (u.power.state = .entering ∧ code = 7 ∧ ∀ first count, memRange r = some (first, count) →
        first < 33554432 ∧ first % 64 + count ≤ 64 ∧ memAllowed r (u.rightsOver p (first / 2048)) = true)))) →
    (l.control.length < 64 → s.freeUnitIdle → exec (.msg p seq ackSeq v body) s = .next (State.settle (u.setPort p
      { accepted with link := { a with
        ackDue := if m.creditClass = none then a.ackDue else some (a.ackDue.getD (u.now + us 1))
        memPend := if m.creditClass = some .memory then a.memPend + 1 else a.memPend
        mgmtPend := if m.creditClass = some .management then a.mgmtPend + 1 else a.mgmtPend
        control := l.control ++ [⟨36, body.getD 1 0#8, body.getD 0 0#8, BitVec.ofNat 8 code,
          if 8 ≤ body.length then BitVec.ofNat 32 (leNat ((body.drop 4).take 4)) else 0, 0, []⟩] } }))) ∧
    (64 ≤ l.control.length →
      exec (.msg p seq ackSeq v body) s = .next (State.linkDown (u.setPort p accepted) p .queueOverrun).finish)) ∧
  (∀ (s : State) (p : Port) (m : Message),
    ((s.link p).state ≠ .active → s.placeControl p m = s) ∧
    ((s.link p).state = .active → (s.link p).control.length < 64 →
      s.placeControl p m = s.setLink p { s.link p with control := (s.link p).control ++ [m] }) ∧
    ((s.link p).state = .active → 64 ≤ (s.link p).control.length → s.placeControl p m = s.linkDown p .queueOverrun))

/-- What becomes of a good MSG frame that is not admitted or refused (R137, R144), its acknowledgement taken first: with
no credit of its class outstanding the link goes down; a duplicate, 1 to 128 behind, is answered with an ACK frame; any
other number is a loss, with a REPLAY-REQ; in AWAITING-REPLAY a number that is not the expected one is discarded; a link
the acknowledgement takes down, or one that does not receive, discards the frame. Model's choice: log 10. -/
def Obligations.MessagesAreTakenInSequence : Prop :=
  ∀ (s : State) (p : Port) (seq ackSeq : Byte) (v : Bool) (body : List Byte), body.length ≤ 300 →
    let u : State := s.takeAck p ackSeq v
    let l : Link := u.link p
    (s.receives p = false → exec (.msg p seq ackSeq v body) s = .next s) ∧
    (s.receives p = true → u.receives p = false → exec (.msg p seq ackSeq v body) s = .next u.finish) ∧
    (s.receives p = true → u.receives p = true →
      (seq = l.expected → ((parseBody body).creditClass = some .memory ∧ l.memOut = 0) ∨
          ((parseBody body).creditClass = some .management ∧ l.mgmtOut = 0) →
        exec (.msg p seq ackSeq v body) s = .next (u.linkDown p .creditViolation).finish) ∧
      (seq ≠ l.expected → l.awaitingReplay = true → exec (.msg p seq ackSeq v body) s = .next u.finish) ∧
      (l.awaitingReplay = false → 1 ≤ (l.expected - seq).toNat → (l.expected - seq).toNat ≤ 128 →
        exec (.msg p seq ackSeq v body) s = .next (u.sendAck p).finish) ∧
      (l.awaitingReplay = false → 128 < (l.expected - seq).toNat →
        exec (.msg p seq ackSeq v body) s = .next (u.findLoss p).finish))

/-- The acknowledgement of a good MSG or ACK frame (R141): with the flag clear nothing; naming a buffered frame it
removes the frames through that one, the retry count becomes 0, the replay timer starts again or stops, and a resend
position that named a removed frame moves to the new oldest; naming none of them nothing, within the sent count, and the
link goes down with BAD-ACK beyond it. The removal of the frame that carries the reply of the RESTART the unit is
stopped for makes the RESTART due (R152, R172); every frame and request that comes between that and RESTART_TAKES_EFFECT
is discarded (log 10). Model's choices: log 8, log 10. -/
def Obligations.AcknowledgementsEmptyTheBuffer : Prop :=
  (∀ (s : State) (p : Port) (ackSeq : Byte),
    let l : Link := s.link p
    let k : Nat := (l.next - 1 - ackSeq).toNat
    s.takeAck p ackSeq false = s ∧
    (k < l.buffer.length →
      let kept : List BufferedFrame := l.buffer.drop (l.buffer.length - k)
      let restart : Prop := s.mgmt.unit = .stopped p ∧ ∃ f ∈ (l.buffer.take (l.buffer.length - k)),
        f.message.kind = 37 ∧ f.message.option = 28 ∧ f.message.status = 0
      ∃ unit : UnitState, (restart → unit = .restartDue) ∧ (¬ restart → unit = s.mgmt.unit) ∧
      s.takeAck p ackSeq true = State.setLink { s with mgmt := ⟨s.mgmt.queue, unit⟩ } p { l with
        buffer := kept
        retry := 0
        replayDue := if kept = [] then none else some (s.now + us 20)
        resend := match l.resend with
          | none => none
          | some n => if ∃ f ∈ (l.buffer.take (l.buffer.length - k)), f.number = n then kept.head?.map fun f => f.number
            else some n }) ∧
    (l.buffer.length ≤ k → k < l.sentCount → s.takeAck p ackSeq true = s) ∧
    (l.buffer.length ≤ k → l.sentCount ≤ k → s.takeAck p ackSeq true = s.linkDown p .badAck)) ∧
  (∀ (s : State) (p : Port) (ackSeq : Byte),
    let l : Link := s.link p
    let k : Nat := (l.next - 1 - ackSeq).toNat
    s.mgmt.unit = .stopped p → k < l.buffer.length →
    (s.takeAck p ackSeq true).mgmt = ⟨s.mgmt.queue,
      if ∃ f ∈ (l.buffer.take (l.buffer.length - k)), f.message.kind = 37 ∧ f.message.option = 28 ∧ f.message.status = 0
      then .restartDue else .stopped p⟩) ∧
  (∀ (s : State) (p : Port), s.mgmt.unit = .restartDue →
    (∀ seq ackSeq v body, exec (.msg p seq ackSeq v body) s = .next s) ∧
    (∀ seq ackSeq v, exec (.ack p seq ackSeq v) s = .next s) ∧ (∀ n, exec (.replayReq p n) s = .next s) ∧
    exec (.badFrame p) s = .next s ∧ (∀ reason, exec (.linkDownFrame p reason) s = .next s) ∧
    (∀ rev, exec (.train p rev) s = .next s) ∧ (∀ tag block r, s.requestArrives p tag block r = .next s))

/-- A good ACK frame (R138, R141), its acknowledgement taken first: a sequence field 1 to 127 ahead of the expected
number reveals a loss; in AWAITING-REPLAY one equal to it ends the wait; otherwise nothing more. Where the
acknowledgement ends the session (BAD-ACK) or makes the RESTART due, that is all of the event; on a link that receives
no frames the ACK is discarded. A loss (R138): a bad frame on a link in condition NORMAL brings one REPLAY-REQ naming
the expected number, which carries no acknowledgement, the condition AWAITING-REPLAY and its timer of 20 µs; on any
other link and in AWAITING-REPLAY it is discarded. A REPLAY-REQ and a LINK-DOWN frame on a link that receives none are
discarded; on one that receives, a LINK-DOWN frame takes the link down with HOST-CLOSE (R142, R149). Model's choice: log
10. -/
def Obligations.LossesAreReplayed : Prop :=
  (∀ (s : State) (p : Port) (seq ackSeq : Byte) (v : Bool),
    (s.receives p = false → exec (.ack p seq ackSeq v) s = .next s) ∧
    (s.receives p = true → (s.takeAck p ackSeq v).receives p = false →
      exec (.ack p seq ackSeq v) s = .next (s.takeAck p ackSeq v).finish)) ∧
  (∀ (s : State) (p : Port) (seq ackSeq : Byte) (v : Bool), s.receives p = true → (s.takeAck p ackSeq v).receives p = true →
    let u : State := s.takeAck p ackSeq v
    let l : Link := u.link p
    let d : Nat := (seq - l.expected).toNat
    (l.awaitingReplay = false → 1 ≤ d → d ≤ 127 → exec (.ack p seq ackSeq v) s = .next (u.findLoss p).finish) ∧
    (l.awaitingReplay = false → d = 0 ∨ 128 ≤ d → exec (.ack p seq ackSeq v) s = .next u.finish) ∧
    (l.awaitingReplay = true → exec (.ack p seq ackSeq v) s = .next (State.finish (if seq = l.expected
      then u.setLink p { l with awaitingReplay := false, replayRequestDue := none } else u)))) ∧
  (∀ (s : State) (p : Port),
    (s.receives p = true → (s.link p).awaitingReplay = false →
      let lost : State := s.setPort p { s.port p with
        tx := (s.port p).tx ++ [⟨3, (s.link p).expected, 0, 0, 0, false, []⟩]
        link := { s.link p with awaitingReplay := true, replayRequestDue := some (s.now + us 20) } }
      s.findLoss p = lost ∧ exec (.badFrame p) s = .next lost) ∧
    (s.receives p = false ∨ (s.link p).awaitingReplay = true → exec (.badFrame p) s = .next s)) ∧
  (∀ (s : State) (p : Port),
    (s.receives p = false → (∀ n, exec (.replayReq p n) s = .next s) ∧ ∀ reason, exec (.linkDownFrame p reason) s = .next s) ∧
    (s.receives p = true → ∀ reason, exec (.linkDownFrame p reason) s = .next (s.linkDown p .hostClose).finish))

/-- A REPLAY-REQ (R142, R143): one that names a frame from the oldest buffered through the next number removes the
frames before it, rewinds to it, starts the replay timer again and counts a retry attempt, and where it removes the
frame that carries the reply of the RESTART the unit is stopped for that RESTART becomes due (R152, R172); any other
takes the link down with BAD-ACK. The link timers: the acknowledgement timer sends an ACK frame (R139); the replay timer
replays the whole buffer, and the replay-request timer sends a further REPLAY-REQ, each a retry attempt; at the fourth
attempt the link goes down with RETRY-LIMIT and nothing of it is sent (R138, R143). Model's choices: log 2, log 10. -/
def Obligations.RetriesRewindOrEndTheSession : Prop :=
  (∀ (s : State) (p : Port) (n : Byte), s.receives p = true →
    let l : Link := s.link p
    let oldest : Byte := match l.buffer with | [] => l.next | f :: _ => f.number
    let j : Nat := (n - oldest).toNat
    (l.buffer.length < j → exec (.replayReq p n) s = .next (s.linkDown p .badAck).finish) ∧
    (j ≤ l.buffer.length →
      let kept : List BufferedFrame := l.buffer.drop j
      let retry : Nat := if 1 ≤ j then 0 else l.retry
      let restart : Prop := s.mgmt.unit = .stopped p ∧ ∃ f ∈ l.buffer.take j,
        f.message.kind = 37 ∧ f.message.option = 28 ∧ f.message.status = 0
      ∃ unit : UnitState, (restart → unit = .restartDue) ∧ (¬ restart → unit = s.mgmt.unit) ∧
      let t : State := State.setLink { s with mgmt := ⟨s.mgmt.queue, unit⟩ } p { l with
        buffer := kept
        resend := if kept = [] then none else some n
        replayDue := if kept = [] then none else some (s.now + us 20)
        retry := retry + 1 }
      (retry < 3 → exec (.replayReq p n) s = .next t.finish) ∧
      (3 ≤ retry → exec (.replayReq p n) s =
        .next (State.linkDown (t.setLink p { t.link p with retry := retry }) p .retryLimit).finish))) ∧
  (∀ (s : State) (p : Port) (due : Time),
    let u : State := { s with now := max s.now due }
    ((s.link p).ackDue = some due → exec (.acknowledgementTimerExpiry p) s = .next (u.sendAck p)) ∧
    ((s.link p).replayDue = some due →
      let t : State := u.setLink p { s.link p with
        resend := (s.link p).buffer.head?.map fun f => f.number, replayDue := some (max s.now due + us 20) }
      ((s.link p).retry < 3 → exec (.replayTimerExpiry p) s =
        .next (t.setLink p { t.link p with retry := (s.link p).retry + 1 }).finish) ∧
      (3 ≤ (s.link p).retry → exec (.replayTimerExpiry p) s = .next (t.linkDown p .retryLimit).finish)) ∧
    ((s.link p).replayRequestDue = some due →
      ((s.link p).retry < 3 → (s.link p).state = .active → exec (.replayRequestTimerExpiry p) s =
        .next (State.finish (u.setPort p { s.port p with
          tx := (s.port p).tx ++ [⟨3, (s.link p).expected, 0, 0, 0, false, []⟩]
          link := { s.link p with retry := (s.link p).retry + 1, replayRequestDue := some (max s.now due + us 20) } }))) ∧
      (3 ≤ (s.link p).retry → (s.link p).state = .active →
        exec (.replayRequestTimerExpiry p) s = .next (u.linkDown p .retryLimit).finish)))

/-- An ACK frame (R139, R145): its sequence field is the next number, its acknowledged number the expected number less
1; with fewer than 12 messages in the control queue it carries every credit pending, which become outstanding; nothing
is owed after it and the acknowledgement timer stops. The acceptance that makes 16 unacknowledged sends one in its
event, before the accepted message's own outcome (log 31). A new MSG frame (R139, R140, R145): it takes the next number,
carries the acknowledgement and, with fewer than 12 messages in the control queue, the credits pending; it joins the
tail of the replay buffer, whose timer starts if it was empty, and is sent. Model's choices: log 15, log 31. -/
def Obligations.FramesCarryAcknowledgementsAndCredits : Prop :=
  (∀ (s : State) (p : Port),
    let l : Link := s.link p
    s.sendAck p = s.setPort p { s.port p with
      link := if l.control.length < 12 then { l with
          unacked := 0, ackDue := none
          memOut := l.memOut + l.memPend, memPend := 0, mgmtOut := l.mgmtOut + l.mgmtPend, mgmtPend := 0 }
        else { l with unacked := 0, ackDue := none }
      tx := (s.port p).tx ++ [⟨2, l.next, l.expected - 1, if l.control.length < 12 then l.memPend else 0,
        if l.control.length < 12 then l.mgmtPend else 0, l.ackValid, []⟩] } ∧
    ∀ cls, s.acceptFrame p cls = if 15 ≤ l.unacked
      then State.sendAck (s.setLink p (l.accepted s.now cls)) p else s.setLink p (l.accepted s.now cls)) ∧
  (∀ (s : State) (p : Port) (m : Message),
    let l : Link := s.link p
    let mem : Nat := if l.control.length < 12 then l.memPend else 0
    let mgmt : Nat := if l.control.length < 12 then l.mgmtPend else 0
    s.sendMessage p m = s.setPort p { s.port p with
      link := { l with
        unacked := 0
        ackDue := none
        memOut := l.memOut + mem
        memPend := l.memPend - mem
        mgmtOut := l.mgmtOut + mgmt
        mgmtPend := l.mgmtPend - mgmt
        next := l.next + 1
        sentCount := min 128 (l.sentCount + 1)
        buffer := l.buffer ++ [⟨l.next, m, mem, mgmt⟩]
        replayDue := if l.buffer = [] then some (s.now + us 20) else l.replayDue }
      tx := (s.port p).tx ++ [⟨1, l.next, l.expected - 1, mem, mgmt, l.ackValid,
        [m.kind, m.tag, m.option, m.status] ++ leBytes 4 m.block.toNat ++ leBytes 4 m.extra.toNat ++ m.payload⟩] })

/-! ### Frames to a processor -/

/-- The outgoing arbiter takes, on an ACTIVE link with fewer than 32 frames buffered and no resend position, the head of
the control queue, else the reply at the head of the reply list, its entry freed and its credit back before the header
is built, else the first full notice slot, which empties (R38, R39, R147). -/
def Obligations.ArbiterTakesInOrder : Prop :=
  ∀ (s : State) (p : Port), (s.link p).state = .active → (s.link p).buffer.length < 32 → (s.link p).resend = none →
    (∀ m rest, (s.link p).control = m :: rest → exec (.outgoingArbiterTake p) s =
      .next (State.sendMessage (s.setLink p { s.link p with control := rest }) p m).settle) ∧
    (∀ k rest e q tag n o, (s.link p).control = [] → (s.port p).replies = k :: rest → s.entry k = some e →
      e.owner = .port q tag n o → exec (.outgoingArbiterTake p) s = .next (State.sendMessage (State.reevaluate
        (State.returnCredit { s.setPort p { s.port p with replies := rest } with table := Sparse.erase s.table k } q .memory))
        p e.reply).settle) ∧
    (∀ (i : Fin 6) (x : NoticeSlot), (s.link p).control = [] → (s.port p).replies = [] → (s.link p).notices[i] = some x →
      (∀ j : Fin 6, j < i → (s.link p).notices[j] = none) → exec (.outgoingArbiterTake p) s = .next (State.sendMessage
        (s.setLink p { s.link p with notices := (s.link p).notices.set i none }) p x.message).settle)

/-- While a resend position is present, a buffered frame is sent again with its own number, message and credit returns
and the acknowledgement current now, and the position moves to the next buffered frame, absent after the newest (R140);
the acknowledgement timer goes on for credits still pending (R145; log 14). -/
def Obligations.ResentFramesKeepTheirContents : Prop :=
  ∀ (s : State) (p : Port) (before after : List BufferedFrame) (f : BufferedFrame),
    (s.link p).resend = some f.number → (s.link p).buffer = before ++ f :: after → (∀ g ∈ before, g.number ≠ f.number) →
    let l : Link := s.link p
    exec (.frameResend p) s = .next (s.setPort p { s.port p with
      link := { l with
        unacked := 0
        ackDue := if l.memPend = 0 ∧ l.mgmtPend = 0 then none else l.ackDue
        resend := after.head?.map fun g => g.number }
      tx := (s.port p).tx ++ [⟨1, f.number, l.expected - 1, f.memReturned, f.mgmtReturned, l.ackValid, f.message.bytes⟩] })

/-- A reply carries its entry's tag, status and result (R74, R79, R83, R158, Table 9-5): READ-DATA 32, WRITE-DONE 33,
ATOMIC-RESULT 34, BARRIER-DONE 35. A set of positions is the byte in which bit i stands for position i (R158). A NOTICE, 38,
carries the code of its kind, the also-since count and the details of the first raising (R160, Table 9-8). -/
def Obligations.RepliesCarryTheResult : Prop :=
  (∀ (e : Entry) (p : Port) (tag : Byte) (n : Nat), e.owner = .port p tag n false → e.kind = .barrier → e.count = 0 →
    e.first = 0 → e.status = none → e.reply = ⟨35, tag, 0, 0, 0, 0, []⟩) ∧
  (∀ positions : List Nat, (∀ i, (positionByte positions).testBit i = decide (i ∈ positions)) ∧
    ((∀ i ∈ positions, i < 8) → positionByte positions < 256)) ∧
  (∀ (n : Notice) (since : Nat),
    let carries : Byte → Nat → Nat → List Byte → Prop := fun code block extra payload =>
      NoticeSlot.message ⟨n, since⟩ =
        ⟨38, 0, code, BitVec.ofNat 8 since, BitVec.ofNat 32 block, BitVec.ofNat 32 extra, payload⟩
    match n with
    | .uncorrectable block source kind number records overflow =>
      let origin : Nat := match source with
        | .portARead => 1 | .portBRead => 2 | .maskedWrite => 3 | .atomic => 4 | .scrub => 5
      let what : Nat := match kind with | .new => 0 | .repeated => 1 | .notRecorded => 2
      carries 0 block (origin + 256 * what + 65536 * number) ([BitVec.ofNat 8 records, 0] ++ leBytes 2 overflow)
    | .refreshMissed bank missed => carries 1 bank.val missed []
    | .thermal reading entered => carries 2 0 ((BitVec.ofInt 8 reading).toNat + if entered then 256 else 0) []
    | .fillDone first count => carries 3 first count []
    | .retainVote present => carries 4 0 (if present then 1 else 0) []
    | .retainEntering => carries 5 0 0 []) ∧
  ∀ (e : Entry) (p : Port) (tag : Byte) (n : Nat) (st : ReadClass), e.owner = .port p tag n false → e.status = some st →
    let code : Byte := match st with | .ok => 0 | .corrected => 1 | .poisoned => 2
    (e.kind = .read → e.reply = ⟨32, tag, BitVec.ofNat 8 e.count, code, BitVec.ofNat 32 e.first,
      BitVec.ofNat 32 (positionByte ((List.range e.classes.length).filter fun i => e.classes[i]? = some .corrected) +
        256 * positionByte ((List.range e.classes.length).filter fun i => e.classes[i]? = some .poisoned)),
      e.data.flatten⟩) ∧
    (e.kind = .write → e.reply = ⟨33, tag, BitVec.ofNat 8 e.count, code, BitVec.ofNat 32 e.first, 0, []⟩) ∧
    (∀ masks, e.kind = .maskedWrite masks → e.reply = ⟨33, tag, BitVec.ofNat 8 e.count, code, BitVec.ofNat 32 e.first,
      BitVec.ofNat 32 (positionByte (skippedSet masks e.classes)), []⟩) ∧
    (∀ op offset a b, e.kind = .atomic op offset a b → e.reply = ⟨34, tag, BitVec.ofNat 8 e.count, code,
      BitVec.ofNat 32 e.first,
      BitVec.ofNat 32 ((match op with | .fetchAdd => 1 | .swap => 2 | .compareSwap => 3 | .fetchAnd => 4 | .fetchOr => 5) +
        256 * offset),
      leBytes 8 (e.oldValue.getD 0).toNat⟩)

/-! ### Training and link-down -/

/-- The taking of a TRAIN by power state and link state (Table 8-3, R135): in STARTING and WAKING a DOWN or PENDING link
becomes PENDING with the revision; in ACTIVE, NAP and ENTERING a DOWN link is answered at once and an ACTIVE link goes
down with HOST-RETRAIN first; in HELD it is ignored. A link that becomes ACTIVE in ENTERING abandons it (R183). Model's
choice: log 10. -/
def Obligations.TrainIsTakenByState : Prop :=
  ∀ (s : State) (p : Port) (rev : Byte), s.mgmt.unit ≠ .restartDue →
    (s.power.state = .held → exec (.train p rev) s = .next s) ∧
    (s.power.state = .starting ∨ s.power.state = .waking → (s.link p).state = .down ∨ (s.link p).state = .pending →
      exec (.train p rev) s =
        .next (s.setLink p { s.link p with state := .pending, pendingRevision := some rev })) ∧
    (s.power.state = .active ∨ s.power.state = .nap ∨ s.power.state = .entering → (s.link p).state = .down →
      s.freeUnitIdle → exec (.train p rev) s = .next (State.settle
        (if s.power.state = .entering ∧ rev = 1 then (s.answerTrain p rev).abandonEntering else s.answerTrain p rev))) ∧
    (s.power.state = .active ∨ s.power.state = .nap ∨ s.power.state = .entering → (s.link p).state = .active →
      let u : State := (s.linkDown p .hostRetrain).drain
      u.power.state = s.power.state → u.freeUnitIdle → exec (.train p rev) s = .next (State.settle
        (if s.power.state = .entering ∧ rev = 1 then (u.answerTrain p rev).abandonEntering else u.answerTrain p rev)))

/-- The answer to a TRAIN (R136): revision 1 begins a session with 48 memory credits less the slots held and 4
management credits less the requests held; any other leaves the link DOWN. The TRAIN-REPLY carries Table 8-4 and is not
kept for replay. A PENDING link is answered with its pending revision. Wake and the abandonment of ENTERING. A TRAIN of
any revision on a link in SLEEP begins WAKING: both links DOWN, that one PENDING, the vote set empty, the time base 0
and held, the long waking trigger taken (R103, R135, R184). In ENTERING a link that becomes ACTIVE brings ACTIVE back:
each vote goes with a notice on the other port, the calibration timer starts for 100 ms and the step timer for one
interval (R183). The TRAIN-REPLY's acknowledgement-valid bit is clear (log 30). Model's choice: log 30. -/
def Obligations.TrainIsAnswered : Prop :=
  (∀ (s : State) (p : Port) (rev : Byte),
    let mem : Nat := 48 - s.heldByPort p
    let mgmt : Nat := 4 - s.mgmtHeld p
    let port : Byte := match p with | .a => 0 | .b => 1
    let own : Byte := if s.owner = p then 1 else 0
    let power : Byte := match s.power.state with
      | .held => 0 | .starting => 1 | .active => 2 | .nap => 3 | .entering => 4 | .retain => 5 | .waking => 6
    (rev = 1 → s.answerTrain p rev = s.setPort p { s.port p with
      link := { State.reset.portA.link with state := .active, memOut := mem, mgmtOut := mgmt }
      tx := (s.port p).tx ++ [⟨5, 0, 0, 0, 0, false,
        [1, port, own, 1, BitVec.ofNat 8 mem, BitVec.ofNat 8 mgmt, 0, 0, 0, 2, 0xF8, 0x03, 1, power]⟩] }) ∧
    (rev ≠ 1 → s.answerTrain p rev = s.setPort p { s.port p with
      link := State.reset.portA.link
      tx := (s.port p).tx ++ [⟨5, 0, 0, 0, 0, false, [0, port, own, 1, 0, 0, 0, 0, 0, 2, 0xF8, 0x03, 1, power]⟩] }) ∧
    ((s.link p).state = .pending → (s.link p).pendingRevision = some rev → s.answerPending p = s.answerTrain p rev) ∧
    ((s.link p).state ≠ .pending → s.answerPending p = s)) ∧
  (∀ (s : State) (p : Port) (rev : Byte),
    (s.power.state = .retain → (s.link p).state = .sleep → s.mgmt.unit ≠ .restartDue → s.maint.cal = .idle →
      let u : State := { s with
        power := { s.power with state := .waking, timeBase := 0, tickDue := none }
        maint := { s.maint with cal := .pending .long }
        portA := { s.portA with link := State.reset.portA.link, vote := false }
        portB := { s.portB with link := State.reset.portB.link, vote := false } }
      exec (.train p rev) s =
        .next (State.settle (u.setLink p { State.reset.portA.link with state := .pending, pendingRevision := some rev }))) ∧
    (let u : State := { s with power := { s.power with state := .active } }
      let v : State := if s.portA.vote = true then (u.setVote .a false).raiseNotice .b (.retainVote false) else u
      let w : State := if s.portB.vote = true then (v.setVote .b false).raiseNotice .a (.retainVote false) else v
      s.abandonEntering = { w with
        maint := { s.maint with calTimerDue := some (s.now + ms 100) }
        scrub := { s.scrub with
          stepDue := if s.store.scrubPeriod = 0 then none else some (s.now + stepInterval s.store.scrubPeriod)
          pendingStep := false } }))

/-- A processor's LINK-DOWN frame completes in every state, whatever reason it carries: on an ACTIVE link it takes the
link down, with the unit's waiting requests taken after it (log 9), and on any other it is discarded (R149). What a
link-down does (R42, R150, R166, R180): the session cleared, the port's DONE entries freed, every other entry of the
port left in the table as an orphan with its state, the entries in HELD worked out afresh after the freeing (R35) and a
held BARRIER of the port freed where no older entry of its session is left (R36, R43), its session number up by 1, its
reply list empty, its waiting requests and its abort reply gone, its awaited RESTART abandoned, its vote withdrawn with
a notice on the other port, whose own link keeps all else. The other port's and the maintenance entries keep their
places. The array and everything else are untouched. The reasons for which the part itself ends a session send one
LINK-DOWN frame with the reason code, BAD-ACK 2, RETRY-LIMIT 3, CREDIT-VIOLATION 4, QUEUE-OVERRUN 5; HOST-RETRAIN and
HOST-CLOSE send none (R149, Table 8-6). The frame's acknowledgement-valid bit is clear (log 30). Model's choices: log 9,
log 10, log 15, log 30. -/
def Obligations.LinkDownEndsTheSession : Prop :=
  (∀ (s : State) (p : Port) (reason : Byte),
    (s.receives p = false → exec (.linkDownFrame p reason) s = .next s) ∧
    (s.receives p = true → exec (.linkDownFrame p reason) s = .next (s.linkDown p .hostClose).finish)) ∧
  (∀ (s : State) (p : Port) (why : DownReason), (s.link p).state = .active → s.tableSound →
      let t : State := s.linkDown p why
      let orphaned : Owner → Owner := fun owner => match owner with
        | .port q tag n o => .port q tag n (o || decide (q = p))
        | .maintenance => .maintenance
      let sent : List Frame := match why with
        | .hostRetrain | .hostClose => []
        | .badAck => [⟨6, 0, 0, 0, 0, false, [2]⟩]
        | .retryLimit => [⟨6, 0, 0, 0, 0, false, [3]⟩]
        | .creditViolation => [⟨6, 0, 0, 0, 0, false, [4]⟩]
        | .queueOverrun => [⟨6, 0, 0, 0, 0, false, [5]⟩]
      t.port p = { s.port p with
        link := State.reset.portA.link, session := (s.port p).session + 1, replies := [], vote := false
        tx := (s.port p).tx ++ sent } ∧
      t.port (otherPort p) =
        (if (s.port p).vote = true then s.raiseNotice (otherPort p) (.retainVote false) else s).port (otherPort p) ∧
      (∀ k e, t.entry k = some e → ∃ x, s.entry k = some x ∧ e.kind = x.kind ∧ e.first = x.first ∧ e.count = x.count ∧
        e.data = x.data ∧ e.age = x.age ∧
        e.owner = orphaned x.owner) ∧
      (∀ k x tag n, s.entry k = some x → x.owner = .port p tag n false → x.state = .done → t.entry k = none) ∧
      (∀ k x, s.entry k = some x → x.owner.port? ≠ some p → t.entry k ≠ none) ∧
      (∀ k x, s.entry k = some x → x.kind ≠ .barrier → ¬ (x.state = .done ∧ ∃ tag n, x.owner = .port p tag n false) →
        ∃ e, t.entry k = some e ∧ e = { x with owner := orphaned x.owner, state := e.state, holds := e.holds } ∧
          (x.state ≠ .held → e.state = x.state ∧ e.holds = x.holds) ∧
          (x.state = .held → e.holds = holdsOf t.table t.fill e ∧ e.state = if e.holds.isEmpty then .queued else .held)) ∧
      (∀ k x, s.entry k = some x → x.kind = .barrier →
        (x.owner.port? ≠ some p → t.entry k = some x) ∧
        (∀ tag n o, x.owner = .port p tag n o → x.state = .held →
          ((∀ y ∈ t.table, y.2.older x = true → sameSession y.2.owner x.owner = false) → t.entry k = none) ∧
          ((∃ y ∈ t.table, y.2.older x = true ∧ sameSession y.2.owner x.owner = true) →
            t.entry k = some { x with owner := .port p tag n true }))) ∧
      t = { s with
        table := t.table
        portA := t.portA
        portB := t.portB
        mgmt := ⟨s.mgmt.queue.filter fun q => q.port ≠ p, if s.mgmt.unit = .stopped p then .free else s.mgmt.unit⟩
        fill := s.fill.map fun f : Fill =>
          { f with abortReply := if ∃ tag, f.abortReply = some (p, tag) then none else f.abortReply } }) ∧
  (∀ (s : State) (p : Port), (s.link p).state = .active →
    let sent : Byte → List Frame := fun code => (s.port p).tx ++ [⟨6, 0, 0, 0, 0, false, [code]⟩]
    ((s.linkDown p .badAck).port p).tx = sent 2 ∧ ((s.linkDown p .retryLimit).port p).tx = sent 3 ∧
    ((s.linkDown p .creditViolation).port p).tx = sent 4 ∧ ((s.linkDown p .queueOverrun).port p).tx = sent 5 ∧
    ((s.linkDown p .hostRetrain).port p).tx = (s.port p).tx ∧ ((s.linkDown p .hostClose).port p).tx = (s.port p).tx)

/-- A notice handed to a port (R148): discarded on a link that is not ACTIVE; not raised where the port's mask lacks one
of the four maskable kinds; an empty slot takes its details with also-since 0; a full one keeps the details it holds and
counts, to 255. -/
def Obligations.NoticesFillTheirSlots : Prop :=
  ∀ (s : State) (p : Port) (n : Notice),
    let i : Fin 6 := match n with
      | .uncorrectable .. => 0 | .refreshMissed .. => 1 | .thermal .. => 2 | .fillDone .. => 3 | .retainVote _ => 4
      | .retainEntering => 5
    let mask : BitVec 32 := match p with | .a => s.store.noticeMaskA | .b => s.store.noticeMaskB
    ((s.link p).state ≠ .active → s.raiseNotice p n = s) ∧
    (i ≠ 3 → i ≠ 5 → mask.getLsbD i.val = false → s.raiseNotice p n = s) ∧
    ((s.link p).state = .active → (i = 3 ∨ i = 5 ∨ mask.getLsbD i.val = true) →
      ((s.link p).notices[i] = none →
        s.raiseNotice p n = s.setLink p { s.link p with notices := (s.link p).notices.set i (some ⟨n, 0⟩) }) ∧
      (∀ held since, (s.link p).notices[i] = some ⟨held, since⟩ →
        s.raiseNotice p n = s.setLink p { s.link p with
          notices := (s.link p).notices.set i (some ⟨held, min 255 (since + 1)⟩) }))

/-! ### Management requests

Each is stated for a request whose frame is accepted and which a free unit takes at once (`State.readyForRequest`); the row
stands for that whole event (log 8). -/

/-- The Management Unit's queue (R164): a free unit takes the request at the head, then the next; a stopped one takes
nothing; and with nothing waiting the end of an event settles the timers alone. A management request that cannot be
taken at once, of each of the 13 rows: accepted while the unit is stopped it joins the tail of the queue and waits (R163,
R164); its tag in use it is refused TAG-IN-USE, its credit back (R161); with no management credit outstanding the link
goes down (R144); on a link that does not receive nothing happens (R135; log 8). In ENTERING every kind but STATUS is
answered POWER and changes nothing (R165). Model's choices: log 8, log 9. -/
def Obligations.ManagementRequestsWaitTheirTurn : Prop :=
  (∀ s : State,
    (s.freeUnitIdle → s.finish = s.settle) ∧
    (∀ q rest, s.mgmt.queue = q :: rest → s.mgmt.unit = .free → s.drain =
      drainFor rest.length (takeRequest q { s with mgmt := { s.mgmt with queue := rest } })) ∧
    (s.mgmt.unit ≠ .free → s.drain = s)) ∧
  (∀ (s : State) (p : Port) (tag : Byte),
    let row : Instr → BitVec 32 → MgmtRequest → Prop := fun c block r => exec c s = s.requestArrives p tag block r
    (∀ key, row (.configGet p tag key) 0 (.configGet key)) ∧
    (∀ key v, row (.configSet p tag key v) 0 (.configSet key v)) ∧
    (∀ clear, row (.status p tag clear) 0 (.status clear)) ∧
    (∀ slot, row (.regionGet p tag slot) 0 (.regionGet slot)) ∧
    (∀ slot first count en a b,
      row (.regionSet p tag slot first count en a b) first (.regionSet slot first count en a b)) ∧
    row (.errorFetch p tag) 0 .errorFetch ∧ (∀ n, row (.errorClear p tag n) n (.errorClear n)) ∧
    (∀ first count pattern, row (.fillStart p tag first count pattern) first (.fillStart first count pattern)) ∧
    row (.fillAbort p tag) 0 .fillAbort ∧ row (.retainVote p tag) 0 .retainVote ∧
    row (.retainWithdraw p tag) 0 .retainWithdraw ∧ row (.calibrate p tag) 0 .calibrate ∧ row (.restart p tag) 0 .restart) ∧
  (∀ (s : State) (p : Port) (tag : Byte) (block : BitVec 32) (r : MgmtRequest),
    let l : Link := s.link p
    let kind : Byte := match r with
      | .configGet _ => 16 | .configSet _ _ => 17 | .status _ => 18 | .regionGet _ => 19 | .regionSet .. => 20
      | .errorFetch => 21 | .errorClear _ => 22 | .fillStart .. => 23 | .fillAbort => 24 | .retainVote => 25
      | .retainWithdraw => 26 | .calibrate => 27 | .restart => 28
    let accepted : Link := { l with
      expected := l.expected + 1, awaitingReplay := false, replayRequestDue := none, retry := 0, ackValid := true,
      unacked := l.unacked + 1, mgmtOut := l.mgmtOut - 1,
      ackDue := if l.unacked = 0 then some (l.ackDue.getD (s.now + us 1)) else l.ackDue }
    (s.receives p = false → s.requestArrives p tag block r = .next s) ∧
    (s.receives p = true → l.mgmtOut = 0 →
      s.requestArrives p tag block r = .next (s.linkDown p .creditViolation).finish) ∧
    (s.receives p = true → l.mgmtOut ≠ 0 → l.unacked < 15 → s.tagInUse p tag = false → s.mgmt.unit ≠ .free →
      s.requestArrives p tag block r = .next (State.settle (State.setLink
        { s with mgmt := { s.mgmt with queue := s.mgmt.queue ++ [⟨p, tag, r⟩] } } p accepted))) ∧
    (s.receives p = true → l.mgmtOut ≠ 0 → l.unacked < 15 → s.tagInUse p tag = true → l.control.length < 64 →
      s.freeUnitIdle → s.requestArrives p tag block r = .next (State.settle (s.setLink p { accepted with
        mgmtPend := l.mgmtPend + 1
        ackDue := some (l.ackDue.getD (s.now + us 1))
        control := l.control ++ [⟨36, tag, kind, 4, block, 0, []⟩] })))) ∧
  (∀ (s : State) (p : Port) (tag : Byte), s.readyForRequest p tag → s.power.state = .entering →
    let power : Nat → Host.Outcome State Fault Refusal := fun kind => .next (s.answered p (failReply tag kind 7 0)).settle
    (∀ key, exec (.configGet p tag key) s = power 16) ∧ (∀ key v, exec (.configSet p tag key v) s = power 17) ∧
    (∀ slot, exec (.regionGet p tag slot) s = power 19) ∧
    (∀ slot first count en a b, exec (.regionSet p tag slot first count en a b) s = power 20) ∧
    exec (.errorFetch p tag) s = power 21 ∧ (∀ n, exec (.errorClear p tag n) s = power 22) ∧
    (∀ first count pattern, exec (.fillStart p tag first count pattern) s = power 23) ∧
    exec (.fillAbort p tag) s = power 24 ∧ exec (.retainVote p tag) s = power 25 ∧
    exec (.retainWithdraw p tag) s = power 26 ∧ exec (.calibrate p tag) s = power 27 ∧ exec (.restart p tag) s = power 28)

/-- CONFIG-GET (R168): OK with the key code and the key's value as it stands; BAD-VALUE with the key code for a code
that is not 1 to 9. It changes nothing. Model's choice: log 8. -/
def Obligations.ConfigGetAnswersTheKey : Prop :=
  ∀ (s : State) (p : Port) (tag : Byte) (key : BitVec 32), s.readyForRequest p tag → s.power.state ≠ .entering →
    let rights : Rights → Nat := fun r => match r with | .none => 0 | .read => 1 | .readWrite => 2
    let ok : Nat → Host.Outcome State Fault Refusal := fun v =>
      .next (s.answered p (okReply tag 16 0 key (leBytes 4 (v % 2 ^ 32)))).settle
    (key = 1 → exec (.configGet p tag key) s = ok s.store.idleClose) ∧
    (key = 2 → exec (.configGet p tag key) s = ok s.store.hitLimit) ∧
    (key = 3 → exec (.configGet p tag key) s = ok s.store.napIdle) ∧
    (key = 4 → exec (.configGet p tag key) s = ok s.store.scrubPeriod) ∧
    (key = 5 → exec (.configGet p tag key) s = ok (if s.store.correctOnRead then 1 else 0)) ∧
    (key = 6 → exec (.configGet p tag key) s = ok s.store.noticeMaskA.toNat) ∧
    (key = 7 → exec (.configGet p tag key) s = ok s.store.noticeMaskB.toNat) ∧
    (key = 8 → exec (.configGet p tag key) s = ok (rights s.store.defaultRightsA)) ∧
    (key = 9 → exec (.configGet p tag key) s = ok (rights s.store.defaultRightsB)) ∧
    (key.toNat = 0 ∨ 10 ≤ key.toNat →
      exec (.configGet p tag key) s = .next (s.answered p (failReply tag 16 10 key)).settle)

/-- CONFIG-SET (R126, R167, R169, Table 10-2): a value in its key's range is stored in that event and answered OK with
the value as it now stands, a notice mask with bits 3 and 5 set; NAP-IDLE starts a running idle timer afresh and at 0
clears nap due, SCRUB-PERIOD starts the step timer afresh in ACTIVE and NAP (R107, R178). Any other value, and a code
that is no key, is answered BAD-VALUE, a default-rights key from the other port NOT-OWNER, and nothing changes. Model's
choice: log 8. -/
def Obligations.ConfigSetStoresTheValue : Prop :=
  ∀ (s : State) (p : Port) (tag : Byte) (key v : BitVec 32), s.readyForRequest p tag → s.power.state ≠ .entering →
    let n : Nat := v.toNat
    let run : Host.Outcome State Fault Refusal := exec (.configSet p tag key v) s
    let ok : State → BitVec 32 → Host.Outcome State Fault Refusal := fun t w =>
      .next (t.answered p (okReply tag 17 0 key (leBytes 4 w.toNat))).settle
    let bad : Host.Outcome State Fault Refusal := .next (s.answered p (failReply tag 17 10 key)).settle
    let notOwner : Host.Outcome State Fault Refusal := .next (s.answered p (failReply tag 17 9 0)).settle
    let rights : Rights := if n = 0 then .none else if n = 1 then .read else .readWrite
    (key = 1 → run = if n ≤ 1000 ∧ n % 4 = 0 then ok { s with store := { s.store with idleClose := n } } v else bad) ∧
    (key = 2 → run = if 1 ≤ n ∧ n ≤ 64 then ok { s with store := { s.store with hitLimit := n } } v else bad) ∧
    (key = 3 → run = if n ≤ 1000 then ok { s with
      store := { s.store with napIdle := n }
      power := { s.power with idleDue := none, napDue := s.power.napDue && decide (n ≠ 0) } } v else bad) ∧
    (key = 4 → run = if n ≤ 168 then ok { s with
      store := { s.store with scrubPeriod := n }
      scrub := if s.power.state = .active ∨ s.power.state = .nap then { s.scrub with
          stepDue := if n = 0 then none else some (s.now + stepInterval n), pendingStep := false }
        else s.scrub } v else bad) ∧
    (key = 5 → run = if n ≤ 1 then ok { s with store := { s.store with correctOnRead := decide (n = 1) } } v else bad) ∧
    (key = 6 → run = if n < 64 then ok { s with store := { s.store with noticeMaskA := v ||| 0x28#32 } } (v ||| 0x28#32)
      else bad) ∧
    (key = 7 → run = if n < 64 then ok { s with store := { s.store with noticeMaskB := v ||| 0x28#32 } } (v ||| 0x28#32)
      else bad) ∧
    (key = 8 → run = if p ≠ s.owner then notOwner
      else if n ≤ 2 then ok { s with store := { s.store with defaultRightsA := rights } } v else bad) ∧
    (key = 9 → run = if p ≠ s.owner then notOwner
      else if n ≤ 2 then ok { s with store := { s.store with defaultRightsB := rights } } v else bad) ∧
    (key.toNat = 0 ∨ 10 ≤ key.toNat → run = bad)

/-- STATUS (R165, R170, R171): in every state in which it can be taken, OK with the 100-byte report as each field
stands; the clear option then sets the corrected counts, the missed-refresh count, the overflow count and the nap-entry
count to 0, the report carrying the values from before, and nothing else changes. The STATUS report (Table 10-3), field
by field. Model's choice: log 8. -/
def Obligations.StatusReportsAndClears : Prop :=
  (∀ (s : State) (p : Port) (tag : Byte), s.readyForRequest p tag →
    (s.statusReport false).length = 100 ∧ (s.statusReport true).length = 100 ∧
    exec (.status p tag false) s = .next (s.answered p (okReply tag 18 0 0 (s.statusReport false))).settle ∧
    ∃ t : State, t = { s with
        maint := { s.maint with missed := 0 }
        errors := { s.errors with overflow := 0 }
        power := { s.power with napCount := 0 }
        banks := t.banks } ∧
      (∀ b, t.bank b = { s.bank b with corrected := 0 }) ∧
      exec (.status p tag true) s = .next (t.answered p (okReply tag 18 0 0 (s.statusReport true))).settle) ∧
  (∀ (s : State) (cleared : Bool),
    let byte : Nat → Byte := fun i => (s.statusReport cleared).getD i 0#8
    let num : Nat → Nat → Nat := fun i size => leNat (((s.statusReport cleared).drop i).take size)
    byte 0 = (match s.power.state with
      | .held => 0 | .starting => 1 | .active => 2 | .nap => 3 | .entering => 4 | .retain => 5 | .waking => 6) ∧
    byte 1 = (match (s.link .a).state with | .down => 0 | .pending => 1 | .active => 2 | .sleep => 3) ∧
    byte 2 = (match (s.link .b).state with | .down => 0 | .pending => 1 | .active => 2 | .sleep => 3) ∧
    byte 3 = (if s.portA.vote then 1 else 0) + (if s.portB.vote then 2 else 0) ∧
    byte 4 = (if s.owner = .b then 1 else 0) ∧
    byte 5 = BitVec.ofNat 8 (s.heldByPort .a) ∧ byte 6 = BitVec.ofNat 8 (s.heldByPort .b) ∧
    byte 7 = BitVec.ofNat 8 s.heldByMaintenance ∧
    (∀ b : Fin 16, byte (8 + b.val) = BitVec.ofNat 8 (s.bank b).debt) ∧
    num 24 2 = s.maint.missed % 65536 ∧ byte 26 = (if s.maint.hot then 1 else 0) ∧
    byte 27 = BitVec.ofInt 8 s.maint.lastTemp ∧
    byte 28 = (match s.maint.cal with
      | .idle => 0 | .pending .short => 1 | .pending .long => 2 | .running .short => 3 | .running .long => 4) ∧
    byte 29 = (match s.maint.followOn with | none => 0 | some .short => 1 | some .long => 2) ∧
    num 30 4 = (s.power.timeBase - s.maint.lastCompletion).toNat ∧
    (∀ b : Fin 16, num (34 + 2 * b.val) 2 = (s.bank b).corrected % 65536) ∧
    byte 66 = BitVec.ofNat 8 s.errors.records.length ∧ num 67 2 = s.errors.overflow % 65536 ∧
    (s.fill = none → ∀ i, 69 ≤ i → i ≤ 82 → byte i = 0) ∧
    (∀ f, s.fill = some f → byte 69 = (if f.aborting then 2 else 1) ∧ byte 70 = (if f.port = .b then 1 else 0) ∧
      num 71 4 = f.first % 2 ^ 32 ∧ num 75 4 = f.count % 2 ^ 32 ∧ num 79 4 = f.cursor % 2 ^ 32) ∧
    num 83 4 = s.scrub.cursor % 2 ^ 32 ∧ num 87 2 = s.scrub.passes % 65536 ∧ num 89 4 = s.power.napCount % 2 ^ 32 ∧
    num 93 4 = s.power.timeBase.toNat ∧ byte 97 = (if cleared then 1 else 0) ∧ byte 98 = 0 ∧ byte 99 = 0)

/-- REGION-GET (R131): OK with the slot as it stands, a disabled one with zeros; BAD-VALUE for a slot number above 7.
REGION-SET (R126, R130): NOT-OWNER from the other port; BAD-VALUE for a slot number above 7 or, to enable, a range or
rights out of range; otherwise the slot is enabled with the range and rights carried, or disabled, and the reply carries
it. Model's choice: log 8. -/
def Obligations.RegionsAreReadAndSet : Prop :=
  ∀ (s : State) (p : Port) (tag slot : Byte), s.readyForRequest p tag → s.power.state ≠ .entering →
    let code : Rights → Byte := fun r => match r with | .none => 0 | .read => 1 | .readWrite => 2
    let reply : Nat → Option Region → Message := fun kind r => match r with
      | none => okReply tag kind 0 0 [0, 0, 0, slot]
      | some r => okReply tag kind (BitVec.ofNat 32 r.first) (BitVec.ofNat 32 r.count)
          [1, code r.rightsA, code r.rightsB, slot]
    let fail : Nat → Nat → Host.Outcome State Fault Refusal := fun kind why =>
      .next (s.answered p (failReply tag kind why 0)).settle
    (∀ i : Fin 8, slot.toNat = i.val →
      exec (.regionGet p tag slot) s = .next (s.answered p (reply 19 s.regions[i])).settle) ∧
    (8 ≤ slot.toNat → exec (.regionGet p tag slot) s = fail 19 10) ∧
    (∀ (first count : BitVec 32) (enable a b : Byte),
      let run : Host.Outcome State Fault Refusal := exec (.regionSet p tag slot first count enable a b) s
      let rights : Byte → Rights := fun c => if c = 0 then .none else if c = 1 then .read else .readWrite
      let wrong : Prop := enable ≠ 0 ∧ (count.toNat = 0 ∨ 16384 < count.toNat ∨ 16384 < first.toNat + count.toNat ∨
        2 < a.toNat ∨ 2 < b.toNat)
      (p ≠ s.owner → run = fail 20 9) ∧
      (p = s.owner → 8 ≤ slot.toNat ∨ wrong → run = fail 20 10) ∧
      (p = s.owner → ∀ i : Fin 8, slot.toNat = i.val → ¬ wrong →
        let r : Option Region := if enable = 0 then none else some ⟨first.toNat, count.toNat, rights a, rights b⟩
        run = .next (State.settle (State.answered { s with regions := s.regions.set i r } p (reply 20 r)))))

/-- ERROR-FETCH (R123): EMPTY with the overflow count, or OK with every field of the oldest record; it changes nothing.
ERROR-CLEAR (R124): the record that carries the number goes, the others keeping their order, and the reply carries the
records left; NOT-FOUND with none. Model's choice: log 8. -/
def Obligations.ErrorRecordsAreFetchedAndCleared : Prop :=
  ∀ (s : State) (p : Port) (tag : Byte), s.readyForRequest p tag → s.power.state ≠ .entering →
    (s.errors.records = [] → exec (.errorFetch p tag) s =
      .next (s.answered p (failReply tag 21 12 (BitVec.ofNat 32 s.errors.overflow))).settle) ∧
    (∀ r rest, s.errors.records = r :: rest →
      let source : Nat := match r.source with
        | .portARead => 1 | .portBRead => 2 | .maskedWrite => 3 | .atomic => 4 | .scrub => 5
      exec (.errorFetch p tag) s = .next (s.answered p (okReply tag 21 (BitVec.ofNat 32 r.block)
        (BitVec.ofNat 32 (r.number + 65536 * source + 16777216 * if r.rewritten then 1 else 0))
        (leBytes 4 r.firstSeen.toNat ++ leBytes 2 r.hits ++ leBytes 2 s.errors.overflow ++
          [BitVec.ofNat 8 (rest.length + 1), 0]))).settle) ∧
    (∀ (n : BitVec 32), (∃ r ∈ s.errors.records, r.number = n.toNat) →
      let left : List ErrorRecord := s.errors.records.filter fun r => r.number ≠ n.toNat
      exec (.errorClear p tag n) s = .next (State.settle (State.answered { s with errors := { s.errors with records := left } }
        p (okReply tag 22 n (BitVec.ofNat 32 left.length) [])))) ∧
    (∀ (n : BitVec 32), (∀ r ∈ s.errors.records, r.number ≠ n.toNat) →
      exec (.errorClear p tag n) s = .next (s.answered p (failReply tag 22 11 0)).settle)

/-- FILL-START accepted (R112, R113): the fill takes an age; up to three FILL entries of successive groups are created,
each with the fill's age and the expanded pattern, and the cursor stands past them; NAP ends; the port's vote goes with
a notice; the reply is OK with the range. Every entry already in the table stays as it is, and no other is added.
FILL-START turned away (R111, Table 6-3): BAD-VALUE, BUSY, ACCESS-DENIED, in that order; nothing changes. FILL-ABORT
(R116): with no fill NOT-FOUND, with one that is aborting BUSY; a running fill becomes ABORTING and keeps the port and
tag, the request held and unanswered. Model's choice: log 8. -/
def Obligations.FillsStartAndAbort : Prop :=
  (∀ (s : State) (p : Port) (tag : Byte) (first count : BitVec 32) (pattern : BitVec 64), s.readyForRequest p tag →
    s.power.state ≠ .entering → s.fill = none → first.toNat % 8 = 0 → count.toNat % 8 = 0 → 8 ≤ count.toNat →
    first.toNat + count.toNat ≤ 33554432 → s.heldByMaintenance ≤ 1 → s.tableSound →
    (∀ g, first.toNat / 2048 ≤ g → g ≤ (first.toNat + count.toNat - 1) / 2048 → s.rightsOver p g = .readWrite) →
    let made : Nat := min 3 (count.toNat / 8)
    ∃ t u : State, exec (.fillStart p tag first count pattern) s = .next u.settle ∧
      u = (if (s.port p).vote = true then (t.setVote p false).raiseNotice (otherPort p) (.retainVote false) else t).answered p
        (okReply tag 23 first count []) ∧
      t = { s with
        ageCounter := s.ageCounter + 1
        fill := some ⟨p, first.toNat, count.toNat, pattern, s.ageCounter, first.toNat + 8 * made, made, false, none⟩
        power := if s.power.state = .nap then { s.power with state := .active, exitDue := some (s.now + ns 20) } else s.power
        table := t.table } ∧
      ∃ slot : Nat → Nat,
        (∀ k, (∀ i, i < made → k ≠ slot i) → t.entry k = s.entry k) ∧
        (∀ i, i < made → 96 ≤ slot i ∧ slot i < 100 ∧ s.entry (slot i) = none ∧ (∀ j, j < i → slot j < slot i) ∧
          (∀ k, 96 ≤ k → k < slot i → s.entry k ≠ none ∨ ∃ j, j < i ∧ k = slot j) ∧
          ∃ e : Entry, t.entry (slot i) = some e ∧
            e = ⟨.maintenance, .fill, first.toNat + 8 * i, 8,
              List.replicate 8 (List.replicate 4 (leBytes 8 pattern.toNat)).flatten, s.ageCounter, e.state, e.holds,
              [], [], none, none⟩ ∧
            e.holds = holdsOf s.table none e ∧ e.state = if e.holds.isEmpty then .queued else .held)) ∧
  (∀ (s : State) (p : Port) (tag : Byte), s.readyForRequest p tag → s.power.state ≠ .entering →
    let fail : Nat → Nat → Host.Outcome State Fault Refusal := fun kind why =>
      .next (s.answered p (failReply tag kind why 0)).settle
    (∀ (first count : BitVec 32) (pattern : BitVec 64),
      let bad : Prop := first.toNat % 8 ≠ 0 ∨ count.toNat % 8 ≠ 0 ∨ count.toNat < 8 ∨ 33554432 < first.toNat + count.toNat
      (bad → exec (.fillStart p tag first count pattern) s = fail 23 10) ∧
      (¬ bad → s.fill ≠ none → exec (.fillStart p tag first count pattern) s = fail 23 8) ∧
      (¬ bad → s.fill = none → (∃ g, first.toNat / 2048 ≤ g ∧ g ≤ (first.toNat + count.toNat - 1) / 2048 ∧
        s.rightsOver p g ≠ .readWrite) → exec (.fillStart p tag first count pattern) s = fail 23 6)) ∧
    (s.fill = none → exec (.fillAbort p tag) s = fail 24 11) ∧
    (∀ f, s.fill = some f → f.aborting = true → exec (.fillAbort p tag) s = fail 24 8) ∧
    (∀ f, s.fill = some f → f.aborting = false → exec (.fillAbort p tag) s = .next (State.settle (State.setLink
      { s with fill := some { f with aborting := true, abortReply := some (p, tag) } } p { s.link p with
        expected := (s.link p).expected + 1
        awaitingReplay := false
        replayRequestDue := none
        retry := 0
        ackValid := true
        unacked := (s.link p).unacked + 1
        ackDue := if (s.link p).unacked = 0 then some ((s.link p).ackDue.getD (s.now + us 1)) else (s.link p).ackDue
        mgmtOut := (s.link p).mgmtOut - 1 }))))

/-- The votes (R180). RETAIN-VOTE: BUSY while a fill runs; otherwise OK, and a port that held no vote is added with a
notice on the other port. RETAIN-WITHDRAW: OK, and a vote held is removed with a notice. CALIBRATE hands on a long
trigger and is answered OK (R102). RESTART from the other port is NOT-OWNER; from the owner it is answered OK and the
unit is stopped until the reply's frame is acknowledged (R126, R172). Model's choice: log 8. -/
def Obligations.VotesCalibrateAndRestartAreAnswered : Prop :=
  (∀ (s : State) (p : Port) (tag : Byte), s.readyForRequest p tag → s.power.state ≠ .entering →
    (s.fill ≠ none → exec (.retainVote p tag) s = .next (s.answered p (failReply tag 25 8 0)).settle) ∧
    (s.fill = none → (s.port p).vote = true →
      exec (.retainVote p tag) s = .next (s.answered p (okReply tag 25 0 0 [])).settle) ∧
    (s.fill = none → (s.port p).vote = false → exec (.retainVote p tag) s =
      .next (((s.setVote p true).raiseNotice (otherPort p) (.retainVote true)).answered p (okReply tag 25 0 0 [])).settle) ∧
    ((s.port p).vote = true → exec (.retainWithdraw p tag) s =
      .next (((s.setVote p false).raiseNotice (otherPort p) (.retainVote false)).answered p (okReply tag 26 0 0 [])).settle) ∧
    ((s.port p).vote = false →
      exec (.retainWithdraw p tag) s = .next (s.answered p (okReply tag 26 0 0 [])).settle)) ∧
  (∀ (s : State) (p : Port) (tag : Byte), s.readyForRequest p tag → s.power.state ≠ .entering →
    exec (.calibrate p tag) s = .next ((s.calTrigger .long).answered p (okReply tag 27 0 0 [])).settle ∧
    (p ≠ s.owner → exec (.restart p tag) s = .next (s.answered p (failReply tag 28 9 0)).settle) ∧
    (p = s.owner → exec (.restart p tag) s =
      .next (State.answered { s with mgmt := ⟨[], .stopped p⟩ } p (okReply tag 28 0 0 [])).settle))

end
end

