-- ==== Sys2Proof/Laws/State.lean ====
section
/-! SUPPORT. What each update of one piece of the state leaves as it was, field by field, and what it sets. -/

namespace Sys2Proof.Machine

/-! ### `State.at` -/

@[simp] theorem powerOns_at (s : State) (t : Time) : (s.at t).powerOns = s.powerOns := rfl
@[simp] theorem rstHigh_at (s : State) (t : Time) : (s.at t).rstHigh = s.rstHigh := rfl
@[simp] theorem powerOnReset_at (s : State) (t : Time) : (s.at t).powerOnReset = s.powerOnReset := rfl
@[simp] theorem runDown_at (s : State) (t : Time) : (s.at t).runDown = s.runDown := rfl
@[simp] theorem pending_at (s : State) (t : Time) : (s.at t).pending = s.pending := rfl
@[simp] theorem contents_at (s : State) (t : Time) : (s.at t).contents = s.contents := rfl
@[simp] theorem conditions_at (s : State) (t : Time) : (s.at t).conditions = s.conditions := rfl
@[simp] theorem banks_at (s : State) (t : Time) : (s.at t).banks = s.banks := rfl
@[simp] theorem calRunDue_at (s : State) (t : Time) : (s.at t).calRunDue = s.calRunDue := rfl
@[simp] theorem path_at (s : State) (t : Time) : (s.at t).path = s.path := rfl
@[simp] theorem window_at (s : State) (t : Time) : (s.at t).window = s.window := rfl
@[simp] theorem spacing_at (s : State) (t : Time) : (s.at t).spacing = s.spacing := rfl
@[simp] theorem table_at (s : State) (t : Time) : (s.at t).table = s.table := rfl
@[simp] theorem ageCounter_at (s : State) (t : Time) : (s.at t).ageCounter = s.ageCounter := rfl
@[simp] theorem portA_at (s : State) (t : Time) : (s.at t).portA = s.portA := rfl
@[simp] theorem portB_at (s : State) (t : Time) : (s.at t).portB = s.portB := rfl
@[simp] theorem maint_at (s : State) (t : Time) : (s.at t).maint = s.maint := rfl
@[simp] theorem scrub_at (s : State) (t : Time) : (s.at t).scrub = s.scrub := rfl
@[simp] theorem fill_at (s : State) (t : Time) : (s.at t).fill = s.fill := rfl
@[simp] theorem errors_at (s : State) (t : Time) : (s.at t).errors = s.errors := rfl
@[simp] theorem owner_at (s : State) (t : Time) : (s.at t).owner = s.owner := rfl
@[simp] theorem regions_at (s : State) (t : Time) : (s.at t).regions = s.regions := rfl
@[simp] theorem mgmt_at (s : State) (t : Time) : (s.at t).mgmt = s.mgmt := rfl
@[simp] theorem store_at (s : State) (t : Time) : (s.at t).store = s.store := rfl
@[simp] theorem power_at (s : State) (t : Time) : (s.at t).power = s.power := rfl

/-! ### `State.setPort` -/

@[simp] theorem now_setPort (s : State) (p : Port) (r : PortRec) : (s.setPort p r).now = s.now := by cases p <;> rfl
@[simp] theorem powerOns_setPort (s : State) (p : Port) (r : PortRec) : (s.setPort p r).powerOns = s.powerOns := by cases p <;> rfl
@[simp] theorem rstHigh_setPort (s : State) (p : Port) (r : PortRec) : (s.setPort p r).rstHigh = s.rstHigh := by cases p <;> rfl
@[simp] theorem powerOnReset_setPort (s : State) (p : Port) (r : PortRec) : (s.setPort p r).powerOnReset = s.powerOnReset := by cases p <;> rfl
@[simp] theorem runDown_setPort (s : State) (p : Port) (r : PortRec) : (s.setPort p r).runDown = s.runDown := by cases p <;> rfl
@[simp] theorem pending_setPort (s : State) (p : Port) (r : PortRec) : (s.setPort p r).pending = s.pending := by cases p <;> rfl
@[simp] theorem contents_setPort (s : State) (p : Port) (r : PortRec) : (s.setPort p r).contents = s.contents := by cases p <;> rfl
@[simp] theorem conditions_setPort (s : State) (p : Port) (r : PortRec) : (s.setPort p r).conditions = s.conditions := by cases p <;> rfl
@[simp] theorem banks_setPort (s : State) (p : Port) (r : PortRec) : (s.setPort p r).banks = s.banks := by cases p <;> rfl
@[simp] theorem calRunDue_setPort (s : State) (p : Port) (r : PortRec) : (s.setPort p r).calRunDue = s.calRunDue := by cases p <;> rfl
@[simp] theorem path_setPort (s : State) (p : Port) (r : PortRec) : (s.setPort p r).path = s.path := by cases p <;> rfl
@[simp] theorem window_setPort (s : State) (p : Port) (r : PortRec) : (s.setPort p r).window = s.window := by cases p <;> rfl
@[simp] theorem spacing_setPort (s : State) (p : Port) (r : PortRec) : (s.setPort p r).spacing = s.spacing := by cases p <;> rfl
@[simp] theorem table_setPort (s : State) (p : Port) (r : PortRec) : (s.setPort p r).table = s.table := by cases p <;> rfl
@[simp] theorem ageCounter_setPort (s : State) (p : Port) (r : PortRec) : (s.setPort p r).ageCounter = s.ageCounter := by cases p <;> rfl
@[simp] theorem maint_setPort (s : State) (p : Port) (r : PortRec) : (s.setPort p r).maint = s.maint := by cases p <;> rfl
@[simp] theorem scrub_setPort (s : State) (p : Port) (r : PortRec) : (s.setPort p r).scrub = s.scrub := by cases p <;> rfl
@[simp] theorem fill_setPort (s : State) (p : Port) (r : PortRec) : (s.setPort p r).fill = s.fill := by cases p <;> rfl
@[simp] theorem errors_setPort (s : State) (p : Port) (r : PortRec) : (s.setPort p r).errors = s.errors := by cases p <;> rfl
@[simp] theorem owner_setPort (s : State) (p : Port) (r : PortRec) : (s.setPort p r).owner = s.owner := by cases p <;> rfl
@[simp] theorem regions_setPort (s : State) (p : Port) (r : PortRec) : (s.setPort p r).regions = s.regions := by cases p <;> rfl
@[simp] theorem mgmt_setPort (s : State) (p : Port) (r : PortRec) : (s.setPort p r).mgmt = s.mgmt := by cases p <;> rfl
@[simp] theorem store_setPort (s : State) (p : Port) (r : PortRec) : (s.setPort p r).store = s.store := by cases p <;> rfl
@[simp] theorem power_setPort (s : State) (p : Port) (r : PortRec) : (s.setPort p r).power = s.power := by cases p <;> rfl

/-! ### `State.setLink` -/

@[simp] theorem now_setLink (s : State) (p : Port) (l : Link) : (s.setLink p l).now = s.now := by cases p <;> rfl
@[simp] theorem powerOns_setLink (s : State) (p : Port) (l : Link) : (s.setLink p l).powerOns = s.powerOns := by cases p <;> rfl
@[simp] theorem rstHigh_setLink (s : State) (p : Port) (l : Link) : (s.setLink p l).rstHigh = s.rstHigh := by cases p <;> rfl
@[simp] theorem powerOnReset_setLink (s : State) (p : Port) (l : Link) : (s.setLink p l).powerOnReset = s.powerOnReset := by cases p <;> rfl
@[simp] theorem runDown_setLink (s : State) (p : Port) (l : Link) : (s.setLink p l).runDown = s.runDown := by cases p <;> rfl
@[simp] theorem pending_setLink (s : State) (p : Port) (l : Link) : (s.setLink p l).pending = s.pending := by cases p <;> rfl
@[simp] theorem contents_setLink (s : State) (p : Port) (l : Link) : (s.setLink p l).contents = s.contents := by cases p <;> rfl
@[simp] theorem conditions_setLink (s : State) (p : Port) (l : Link) : (s.setLink p l).conditions = s.conditions := by cases p <;> rfl
@[simp] theorem banks_setLink (s : State) (p : Port) (l : Link) : (s.setLink p l).banks = s.banks := by cases p <;> rfl
@[simp] theorem calRunDue_setLink (s : State) (p : Port) (l : Link) : (s.setLink p l).calRunDue = s.calRunDue := by cases p <;> rfl
@[simp] theorem path_setLink (s : State) (p : Port) (l : Link) : (s.setLink p l).path = s.path := by cases p <;> rfl
@[simp] theorem window_setLink (s : State) (p : Port) (l : Link) : (s.setLink p l).window = s.window := by cases p <;> rfl
@[simp] theorem spacing_setLink (s : State) (p : Port) (l : Link) : (s.setLink p l).spacing = s.spacing := by cases p <;> rfl
@[simp] theorem table_setLink (s : State) (p : Port) (l : Link) : (s.setLink p l).table = s.table := by cases p <;> rfl
@[simp] theorem ageCounter_setLink (s : State) (p : Port) (l : Link) : (s.setLink p l).ageCounter = s.ageCounter := by cases p <;> rfl
@[simp] theorem maint_setLink (s : State) (p : Port) (l : Link) : (s.setLink p l).maint = s.maint := by cases p <;> rfl
@[simp] theorem scrub_setLink (s : State) (p : Port) (l : Link) : (s.setLink p l).scrub = s.scrub := by cases p <;> rfl
@[simp] theorem fill_setLink (s : State) (p : Port) (l : Link) : (s.setLink p l).fill = s.fill := by cases p <;> rfl
@[simp] theorem errors_setLink (s : State) (p : Port) (l : Link) : (s.setLink p l).errors = s.errors := by cases p <;> rfl
@[simp] theorem owner_setLink (s : State) (p : Port) (l : Link) : (s.setLink p l).owner = s.owner := by cases p <;> rfl
@[simp] theorem regions_setLink (s : State) (p : Port) (l : Link) : (s.setLink p l).regions = s.regions := by cases p <;> rfl
@[simp] theorem mgmt_setLink (s : State) (p : Port) (l : Link) : (s.setLink p l).mgmt = s.mgmt := by cases p <;> rfl
@[simp] theorem store_setLink (s : State) (p : Port) (l : Link) : (s.setLink p l).store = s.store := by cases p <;> rfl
@[simp] theorem power_setLink (s : State) (p : Port) (l : Link) : (s.setLink p l).power = s.power := by cases p <;> rfl

/-! ### `State.setBank` -/

@[simp] theorem now_setBank (s : State) (b : Fin 16) (r : Bank) : (s.setBank b r).now = s.now := rfl
@[simp] theorem powerOns_setBank (s : State) (b : Fin 16) (r : Bank) : (s.setBank b r).powerOns = s.powerOns := rfl
@[simp] theorem rstHigh_setBank (s : State) (b : Fin 16) (r : Bank) : (s.setBank b r).rstHigh = s.rstHigh := rfl
@[simp] theorem powerOnReset_setBank (s : State) (b : Fin 16) (r : Bank) : (s.setBank b r).powerOnReset = s.powerOnReset := rfl
@[simp] theorem runDown_setBank (s : State) (b : Fin 16) (r : Bank) : (s.setBank b r).runDown = s.runDown := rfl
@[simp] theorem pending_setBank (s : State) (b : Fin 16) (r : Bank) : (s.setBank b r).pending = s.pending := rfl
@[simp] theorem contents_setBank (s : State) (b : Fin 16) (r : Bank) : (s.setBank b r).contents = s.contents := rfl
@[simp] theorem conditions_setBank (s : State) (b : Fin 16) (r : Bank) : (s.setBank b r).conditions = s.conditions := rfl
@[simp] theorem calRunDue_setBank (s : State) (b : Fin 16) (r : Bank) : (s.setBank b r).calRunDue = s.calRunDue := rfl
@[simp] theorem path_setBank (s : State) (b : Fin 16) (r : Bank) : (s.setBank b r).path = s.path := rfl
@[simp] theorem window_setBank (s : State) (b : Fin 16) (r : Bank) : (s.setBank b r).window = s.window := rfl
@[simp] theorem spacing_setBank (s : State) (b : Fin 16) (r : Bank) : (s.setBank b r).spacing = s.spacing := rfl
@[simp] theorem table_setBank (s : State) (b : Fin 16) (r : Bank) : (s.setBank b r).table = s.table := rfl
@[simp] theorem ageCounter_setBank (s : State) (b : Fin 16) (r : Bank) : (s.setBank b r).ageCounter = s.ageCounter := rfl
@[simp] theorem portA_setBank (s : State) (b : Fin 16) (r : Bank) : (s.setBank b r).portA = s.portA := rfl
@[simp] theorem portB_setBank (s : State) (b : Fin 16) (r : Bank) : (s.setBank b r).portB = s.portB := rfl
@[simp] theorem maint_setBank (s : State) (b : Fin 16) (r : Bank) : (s.setBank b r).maint = s.maint := rfl
@[simp] theorem scrub_setBank (s : State) (b : Fin 16) (r : Bank) : (s.setBank b r).scrub = s.scrub := rfl
@[simp] theorem fill_setBank (s : State) (b : Fin 16) (r : Bank) : (s.setBank b r).fill = s.fill := rfl
@[simp] theorem errors_setBank (s : State) (b : Fin 16) (r : Bank) : (s.setBank b r).errors = s.errors := rfl
@[simp] theorem owner_setBank (s : State) (b : Fin 16) (r : Bank) : (s.setBank b r).owner = s.owner := rfl
@[simp] theorem regions_setBank (s : State) (b : Fin 16) (r : Bank) : (s.setBank b r).regions = s.regions := rfl
@[simp] theorem mgmt_setBank (s : State) (b : Fin 16) (r : Bank) : (s.setBank b r).mgmt = s.mgmt := rfl
@[simp] theorem store_setBank (s : State) (b : Fin 16) (r : Bank) : (s.setBank b r).store = s.store := rfl
@[simp] theorem power_setBank (s : State) (b : Fin 16) (r : Bank) : (s.setBank b r).power = s.power := rfl

/-! ### `State.mapBanks` -/

@[simp] theorem now_mapBanks (s : State) (f : Fin 16 → Bank → Bank) : (s.mapBanks f).now = s.now := by unfold State.mapBanks; rfl
@[simp] theorem powerOns_mapBanks (s : State) (f : Fin 16 → Bank → Bank) : (s.mapBanks f).powerOns = s.powerOns := by unfold State.mapBanks; rfl
@[simp] theorem rstHigh_mapBanks (s : State) (f : Fin 16 → Bank → Bank) : (s.mapBanks f).rstHigh = s.rstHigh := by unfold State.mapBanks; rfl
@[simp] theorem powerOnReset_mapBanks (s : State) (f : Fin 16 → Bank → Bank) : (s.mapBanks f).powerOnReset = s.powerOnReset := by unfold State.mapBanks; rfl
@[simp] theorem runDown_mapBanks (s : State) (f : Fin 16 → Bank → Bank) : (s.mapBanks f).runDown = s.runDown := by unfold State.mapBanks; rfl
@[simp] theorem pending_mapBanks (s : State) (f : Fin 16 → Bank → Bank) : (s.mapBanks f).pending = s.pending := by unfold State.mapBanks; rfl
@[simp] theorem contents_mapBanks (s : State) (f : Fin 16 → Bank → Bank) : (s.mapBanks f).contents = s.contents := by unfold State.mapBanks; rfl
@[simp] theorem conditions_mapBanks (s : State) (f : Fin 16 → Bank → Bank) : (s.mapBanks f).conditions = s.conditions := by unfold State.mapBanks; rfl
@[simp] theorem calRunDue_mapBanks (s : State) (f : Fin 16 → Bank → Bank) : (s.mapBanks f).calRunDue = s.calRunDue := by unfold State.mapBanks; rfl
@[simp] theorem path_mapBanks (s : State) (f : Fin 16 → Bank → Bank) : (s.mapBanks f).path = s.path := by unfold State.mapBanks; rfl
@[simp] theorem window_mapBanks (s : State) (f : Fin 16 → Bank → Bank) : (s.mapBanks f).window = s.window := by unfold State.mapBanks; rfl
@[simp] theorem spacing_mapBanks (s : State) (f : Fin 16 → Bank → Bank) : (s.mapBanks f).spacing = s.spacing := by unfold State.mapBanks; rfl
@[simp] theorem table_mapBanks (s : State) (f : Fin 16 → Bank → Bank) : (s.mapBanks f).table = s.table := by unfold State.mapBanks; rfl
@[simp] theorem ageCounter_mapBanks (s : State) (f : Fin 16 → Bank → Bank) : (s.mapBanks f).ageCounter = s.ageCounter := by unfold State.mapBanks; rfl
@[simp] theorem portA_mapBanks (s : State) (f : Fin 16 → Bank → Bank) : (s.mapBanks f).portA = s.portA := by unfold State.mapBanks; rfl
@[simp] theorem portB_mapBanks (s : State) (f : Fin 16 → Bank → Bank) : (s.mapBanks f).portB = s.portB := by unfold State.mapBanks; rfl
@[simp] theorem maint_mapBanks (s : State) (f : Fin 16 → Bank → Bank) : (s.mapBanks f).maint = s.maint := by unfold State.mapBanks; rfl
@[simp] theorem scrub_mapBanks (s : State) (f : Fin 16 → Bank → Bank) : (s.mapBanks f).scrub = s.scrub := by unfold State.mapBanks; rfl
@[simp] theorem fill_mapBanks (s : State) (f : Fin 16 → Bank → Bank) : (s.mapBanks f).fill = s.fill := by unfold State.mapBanks; rfl
@[simp] theorem errors_mapBanks (s : State) (f : Fin 16 → Bank → Bank) : (s.mapBanks f).errors = s.errors := by unfold State.mapBanks; rfl
@[simp] theorem owner_mapBanks (s : State) (f : Fin 16 → Bank → Bank) : (s.mapBanks f).owner = s.owner := by unfold State.mapBanks; rfl
@[simp] theorem regions_mapBanks (s : State) (f : Fin 16 → Bank → Bank) : (s.mapBanks f).regions = s.regions := by unfold State.mapBanks; rfl
@[simp] theorem mgmt_mapBanks (s : State) (f : Fin 16 → Bank → Bank) : (s.mapBanks f).mgmt = s.mgmt := by unfold State.mapBanks; rfl
@[simp] theorem store_mapBanks (s : State) (f : Fin 16 → Bank → Bank) : (s.mapBanks f).store = s.store := by unfold State.mapBanks; rfl
@[simp] theorem power_mapBanks (s : State) (f : Fin 16 → Bank → Bank) : (s.mapBanks f).power = s.power := by unfold State.mapBanks; rfl

/-! ### `State.setEntry` -/

@[simp] theorem now_setEntry (s : State) (k : Nat) (e : Entry) : (s.setEntry k e).now = s.now := rfl
@[simp] theorem powerOns_setEntry (s : State) (k : Nat) (e : Entry) : (s.setEntry k e).powerOns = s.powerOns := rfl
@[simp] theorem rstHigh_setEntry (s : State) (k : Nat) (e : Entry) : (s.setEntry k e).rstHigh = s.rstHigh := rfl
@[simp] theorem powerOnReset_setEntry (s : State) (k : Nat) (e : Entry) : (s.setEntry k e).powerOnReset = s.powerOnReset := rfl
@[simp] theorem runDown_setEntry (s : State) (k : Nat) (e : Entry) : (s.setEntry k e).runDown = s.runDown := rfl
@[simp] theorem pending_setEntry (s : State) (k : Nat) (e : Entry) : (s.setEntry k e).pending = s.pending := rfl
@[simp] theorem contents_setEntry (s : State) (k : Nat) (e : Entry) : (s.setEntry k e).contents = s.contents := rfl
@[simp] theorem conditions_setEntry (s : State) (k : Nat) (e : Entry) : (s.setEntry k e).conditions = s.conditions := rfl
@[simp] theorem banks_setEntry (s : State) (k : Nat) (e : Entry) : (s.setEntry k e).banks = s.banks := rfl
@[simp] theorem calRunDue_setEntry (s : State) (k : Nat) (e : Entry) : (s.setEntry k e).calRunDue = s.calRunDue := rfl
@[simp] theorem path_setEntry (s : State) (k : Nat) (e : Entry) : (s.setEntry k e).path = s.path := rfl
@[simp] theorem window_setEntry (s : State) (k : Nat) (e : Entry) : (s.setEntry k e).window = s.window := rfl
@[simp] theorem spacing_setEntry (s : State) (k : Nat) (e : Entry) : (s.setEntry k e).spacing = s.spacing := rfl
@[simp] theorem ageCounter_setEntry (s : State) (k : Nat) (e : Entry) : (s.setEntry k e).ageCounter = s.ageCounter := rfl
@[simp] theorem portA_setEntry (s : State) (k : Nat) (e : Entry) : (s.setEntry k e).portA = s.portA := rfl
@[simp] theorem portB_setEntry (s : State) (k : Nat) (e : Entry) : (s.setEntry k e).portB = s.portB := rfl
@[simp] theorem maint_setEntry (s : State) (k : Nat) (e : Entry) : (s.setEntry k e).maint = s.maint := rfl
@[simp] theorem scrub_setEntry (s : State) (k : Nat) (e : Entry) : (s.setEntry k e).scrub = s.scrub := rfl
@[simp] theorem fill_setEntry (s : State) (k : Nat) (e : Entry) : (s.setEntry k e).fill = s.fill := rfl
@[simp] theorem errors_setEntry (s : State) (k : Nat) (e : Entry) : (s.setEntry k e).errors = s.errors := rfl
@[simp] theorem owner_setEntry (s : State) (k : Nat) (e : Entry) : (s.setEntry k e).owner = s.owner := rfl
@[simp] theorem regions_setEntry (s : State) (k : Nat) (e : Entry) : (s.setEntry k e).regions = s.regions := rfl
@[simp] theorem mgmt_setEntry (s : State) (k : Nat) (e : Entry) : (s.setEntry k e).mgmt = s.mgmt := rfl
@[simp] theorem store_setEntry (s : State) (k : Nat) (e : Entry) : (s.setEntry k e).store = s.store := rfl
@[simp] theorem power_setEntry (s : State) (k : Nat) (e : Entry) : (s.setEntry k e).power = s.power := rfl

/-! ### `State.clearSlot` -/

@[simp] theorem now_clearSlot (s : State) (k : Nat) : (s.clearSlot k).now = s.now := rfl
@[simp] theorem powerOns_clearSlot (s : State) (k : Nat) : (s.clearSlot k).powerOns = s.powerOns := rfl
@[simp] theorem rstHigh_clearSlot (s : State) (k : Nat) : (s.clearSlot k).rstHigh = s.rstHigh := rfl
@[simp] theorem powerOnReset_clearSlot (s : State) (k : Nat) : (s.clearSlot k).powerOnReset = s.powerOnReset := rfl
@[simp] theorem runDown_clearSlot (s : State) (k : Nat) : (s.clearSlot k).runDown = s.runDown := rfl
@[simp] theorem pending_clearSlot (s : State) (k : Nat) : (s.clearSlot k).pending = s.pending := rfl
@[simp] theorem contents_clearSlot (s : State) (k : Nat) : (s.clearSlot k).contents = s.contents := rfl
@[simp] theorem conditions_clearSlot (s : State) (k : Nat) : (s.clearSlot k).conditions = s.conditions := rfl
@[simp] theorem banks_clearSlot (s : State) (k : Nat) : (s.clearSlot k).banks = s.banks := rfl
@[simp] theorem calRunDue_clearSlot (s : State) (k : Nat) : (s.clearSlot k).calRunDue = s.calRunDue := rfl
@[simp] theorem path_clearSlot (s : State) (k : Nat) : (s.clearSlot k).path = s.path := rfl
@[simp] theorem window_clearSlot (s : State) (k : Nat) : (s.clearSlot k).window = s.window := rfl
@[simp] theorem spacing_clearSlot (s : State) (k : Nat) : (s.clearSlot k).spacing = s.spacing := rfl
@[simp] theorem ageCounter_clearSlot (s : State) (k : Nat) : (s.clearSlot k).ageCounter = s.ageCounter := rfl
@[simp] theorem portA_clearSlot (s : State) (k : Nat) : (s.clearSlot k).portA = s.portA := rfl
@[simp] theorem portB_clearSlot (s : State) (k : Nat) : (s.clearSlot k).portB = s.portB := rfl
@[simp] theorem maint_clearSlot (s : State) (k : Nat) : (s.clearSlot k).maint = s.maint := rfl
@[simp] theorem scrub_clearSlot (s : State) (k : Nat) : (s.clearSlot k).scrub = s.scrub := rfl
@[simp] theorem fill_clearSlot (s : State) (k : Nat) : (s.clearSlot k).fill = s.fill := rfl
@[simp] theorem errors_clearSlot (s : State) (k : Nat) : (s.clearSlot k).errors = s.errors := rfl
@[simp] theorem owner_clearSlot (s : State) (k : Nat) : (s.clearSlot k).owner = s.owner := rfl
@[simp] theorem regions_clearSlot (s : State) (k : Nat) : (s.clearSlot k).regions = s.regions := rfl
@[simp] theorem mgmt_clearSlot (s : State) (k : Nat) : (s.clearSlot k).mgmt = s.mgmt := rfl
@[simp] theorem store_clearSlot (s : State) (k : Nat) : (s.clearSlot k).store = s.store := rfl
@[simp] theorem power_clearSlot (s : State) (k : Nat) : (s.clearSlot k).power = s.power := rfl

/-! ### `State.setCondition` -/

@[simp] theorem now_setCondition (s : State) (b : Nat) (c : Condition) : (s.setCondition b c).now = s.now := rfl
@[simp] theorem powerOns_setCondition (s : State) (b : Nat) (c : Condition) : (s.setCondition b c).powerOns = s.powerOns := rfl
@[simp] theorem rstHigh_setCondition (s : State) (b : Nat) (c : Condition) : (s.setCondition b c).rstHigh = s.rstHigh := rfl
@[simp] theorem powerOnReset_setCondition (s : State) (b : Nat) (c : Condition) : (s.setCondition b c).powerOnReset = s.powerOnReset := rfl
@[simp] theorem runDown_setCondition (s : State) (b : Nat) (c : Condition) : (s.setCondition b c).runDown = s.runDown := rfl
@[simp] theorem pending_setCondition (s : State) (b : Nat) (c : Condition) : (s.setCondition b c).pending = s.pending := rfl
@[simp] theorem contents_setCondition (s : State) (b : Nat) (c : Condition) : (s.setCondition b c).contents = s.contents := rfl
@[simp] theorem banks_setCondition (s : State) (b : Nat) (c : Condition) : (s.setCondition b c).banks = s.banks := rfl
@[simp] theorem calRunDue_setCondition (s : State) (b : Nat) (c : Condition) : (s.setCondition b c).calRunDue = s.calRunDue := rfl
@[simp] theorem path_setCondition (s : State) (b : Nat) (c : Condition) : (s.setCondition b c).path = s.path := rfl
@[simp] theorem window_setCondition (s : State) (b : Nat) (c : Condition) : (s.setCondition b c).window = s.window := rfl
@[simp] theorem spacing_setCondition (s : State) (b : Nat) (c : Condition) : (s.setCondition b c).spacing = s.spacing := rfl
@[simp] theorem table_setCondition (s : State) (b : Nat) (c : Condition) : (s.setCondition b c).table = s.table := rfl
@[simp] theorem ageCounter_setCondition (s : State) (b : Nat) (c : Condition) : (s.setCondition b c).ageCounter = s.ageCounter := rfl
@[simp] theorem portA_setCondition (s : State) (b : Nat) (c : Condition) : (s.setCondition b c).portA = s.portA := rfl
@[simp] theorem portB_setCondition (s : State) (b : Nat) (c : Condition) : (s.setCondition b c).portB = s.portB := rfl
@[simp] theorem maint_setCondition (s : State) (b : Nat) (c : Condition) : (s.setCondition b c).maint = s.maint := rfl
@[simp] theorem scrub_setCondition (s : State) (b : Nat) (c : Condition) : (s.setCondition b c).scrub = s.scrub := rfl
@[simp] theorem fill_setCondition (s : State) (b : Nat) (c : Condition) : (s.setCondition b c).fill = s.fill := rfl
@[simp] theorem errors_setCondition (s : State) (b : Nat) (c : Condition) : (s.setCondition b c).errors = s.errors := rfl
@[simp] theorem owner_setCondition (s : State) (b : Nat) (c : Condition) : (s.setCondition b c).owner = s.owner := rfl
@[simp] theorem regions_setCondition (s : State) (b : Nat) (c : Condition) : (s.setCondition b c).regions = s.regions := rfl
@[simp] theorem mgmt_setCondition (s : State) (b : Nat) (c : Condition) : (s.setCondition b c).mgmt = s.mgmt := rfl
@[simp] theorem store_setCondition (s : State) (b : Nat) (c : Condition) : (s.setCondition b c).store = s.store := rfl
@[simp] theorem power_setCondition (s : State) (b : Nat) (c : Condition) : (s.setCondition b c).power = s.power := rfl

/-! ### `State.writeBlock` -/

@[simp] theorem now_writeBlock (s : State) (b : Nat) (d : List Byte) : (s.writeBlock b d).now = s.now := by unfold State.writeBlock; rfl
@[simp] theorem powerOns_writeBlock (s : State) (b : Nat) (d : List Byte) : (s.writeBlock b d).powerOns = s.powerOns := by unfold State.writeBlock; rfl
@[simp] theorem rstHigh_writeBlock (s : State) (b : Nat) (d : List Byte) : (s.writeBlock b d).rstHigh = s.rstHigh := by unfold State.writeBlock; rfl
@[simp] theorem powerOnReset_writeBlock (s : State) (b : Nat) (d : List Byte) : (s.writeBlock b d).powerOnReset = s.powerOnReset := by unfold State.writeBlock; rfl
@[simp] theorem runDown_writeBlock (s : State) (b : Nat) (d : List Byte) : (s.writeBlock b d).runDown = s.runDown := by unfold State.writeBlock; rfl
@[simp] theorem pending_writeBlock (s : State) (b : Nat) (d : List Byte) : (s.writeBlock b d).pending = s.pending := by unfold State.writeBlock; rfl
@[simp] theorem banks_writeBlock (s : State) (b : Nat) (d : List Byte) : (s.writeBlock b d).banks = s.banks := by unfold State.writeBlock; rfl
@[simp] theorem calRunDue_writeBlock (s : State) (b : Nat) (d : List Byte) : (s.writeBlock b d).calRunDue = s.calRunDue := by unfold State.writeBlock; rfl
@[simp] theorem path_writeBlock (s : State) (b : Nat) (d : List Byte) : (s.writeBlock b d).path = s.path := by unfold State.writeBlock; rfl
@[simp] theorem window_writeBlock (s : State) (b : Nat) (d : List Byte) : (s.writeBlock b d).window = s.window := by unfold State.writeBlock; rfl
@[simp] theorem spacing_writeBlock (s : State) (b : Nat) (d : List Byte) : (s.writeBlock b d).spacing = s.spacing := by unfold State.writeBlock; rfl
@[simp] theorem table_writeBlock (s : State) (b : Nat) (d : List Byte) : (s.writeBlock b d).table = s.table := by unfold State.writeBlock; rfl
@[simp] theorem ageCounter_writeBlock (s : State) (b : Nat) (d : List Byte) : (s.writeBlock b d).ageCounter = s.ageCounter := by unfold State.writeBlock; rfl
@[simp] theorem portA_writeBlock (s : State) (b : Nat) (d : List Byte) : (s.writeBlock b d).portA = s.portA := by unfold State.writeBlock; rfl
@[simp] theorem portB_writeBlock (s : State) (b : Nat) (d : List Byte) : (s.writeBlock b d).portB = s.portB := by unfold State.writeBlock; rfl
@[simp] theorem maint_writeBlock (s : State) (b : Nat) (d : List Byte) : (s.writeBlock b d).maint = s.maint := by unfold State.writeBlock; rfl
@[simp] theorem scrub_writeBlock (s : State) (b : Nat) (d : List Byte) : (s.writeBlock b d).scrub = s.scrub := by unfold State.writeBlock; rfl
@[simp] theorem fill_writeBlock (s : State) (b : Nat) (d : List Byte) : (s.writeBlock b d).fill = s.fill := by unfold State.writeBlock; rfl
@[simp] theorem errors_writeBlock (s : State) (b : Nat) (d : List Byte) : (s.writeBlock b d).errors = s.errors := by unfold State.writeBlock; rfl
@[simp] theorem owner_writeBlock (s : State) (b : Nat) (d : List Byte) : (s.writeBlock b d).owner = s.owner := by unfold State.writeBlock; rfl
@[simp] theorem regions_writeBlock (s : State) (b : Nat) (d : List Byte) : (s.writeBlock b d).regions = s.regions := by unfold State.writeBlock; rfl
@[simp] theorem mgmt_writeBlock (s : State) (b : Nat) (d : List Byte) : (s.writeBlock b d).mgmt = s.mgmt := by unfold State.writeBlock; rfl
@[simp] theorem store_writeBlock (s : State) (b : Nat) (d : List Byte) : (s.writeBlock b d).store = s.store := by unfold State.writeBlock; rfl
@[simp] theorem power_writeBlock (s : State) (b : Nat) (d : List Byte) : (s.writeBlock b d).power = s.power := by unfold State.writeBlock; rfl

/-! ### `State.freePath` -/

@[simp] theorem now_freePath (s : State) (d : Direction) : (s.freePath d).now = s.now := rfl
@[simp] theorem powerOns_freePath (s : State) (d : Direction) : (s.freePath d).powerOns = s.powerOns := rfl
@[simp] theorem rstHigh_freePath (s : State) (d : Direction) : (s.freePath d).rstHigh = s.rstHigh := rfl
@[simp] theorem powerOnReset_freePath (s : State) (d : Direction) : (s.freePath d).powerOnReset = s.powerOnReset := rfl
@[simp] theorem runDown_freePath (s : State) (d : Direction) : (s.freePath d).runDown = s.runDown := rfl
@[simp] theorem pending_freePath (s : State) (d : Direction) : (s.freePath d).pending = s.pending := rfl
@[simp] theorem contents_freePath (s : State) (d : Direction) : (s.freePath d).contents = s.contents := rfl
@[simp] theorem conditions_freePath (s : State) (d : Direction) : (s.freePath d).conditions = s.conditions := rfl
@[simp] theorem banks_freePath (s : State) (d : Direction) : (s.freePath d).banks = s.banks := rfl
@[simp] theorem calRunDue_freePath (s : State) (d : Direction) : (s.freePath d).calRunDue = s.calRunDue := rfl
@[simp] theorem window_freePath (s : State) (d : Direction) : (s.freePath d).window = s.window := rfl
@[simp] theorem spacing_freePath (s : State) (d : Direction) : (s.freePath d).spacing = s.spacing := rfl
@[simp] theorem table_freePath (s : State) (d : Direction) : (s.freePath d).table = s.table := rfl
@[simp] theorem ageCounter_freePath (s : State) (d : Direction) : (s.freePath d).ageCounter = s.ageCounter := rfl
@[simp] theorem portA_freePath (s : State) (d : Direction) : (s.freePath d).portA = s.portA := rfl
@[simp] theorem portB_freePath (s : State) (d : Direction) : (s.freePath d).portB = s.portB := rfl
@[simp] theorem maint_freePath (s : State) (d : Direction) : (s.freePath d).maint = s.maint := rfl
@[simp] theorem scrub_freePath (s : State) (d : Direction) : (s.freePath d).scrub = s.scrub := rfl
@[simp] theorem fill_freePath (s : State) (d : Direction) : (s.freePath d).fill = s.fill := rfl
@[simp] theorem errors_freePath (s : State) (d : Direction) : (s.freePath d).errors = s.errors := rfl
@[simp] theorem owner_freePath (s : State) (d : Direction) : (s.freePath d).owner = s.owner := rfl
@[simp] theorem regions_freePath (s : State) (d : Direction) : (s.freePath d).regions = s.regions := rfl
@[simp] theorem mgmt_freePath (s : State) (d : Direction) : (s.freePath d).mgmt = s.mgmt := rfl
@[simp] theorem store_freePath (s : State) (d : Direction) : (s.freePath d).store = s.store := rfl
@[simp] theorem power_freePath (s : State) (d : Direction) : (s.freePath d).power = s.power := rfl

/-! ### `State.settle` -/

@[simp] theorem now_settle (s : State) : (s.settle).now = s.now := by unfold State.settle; rfl
@[simp] theorem powerOns_settle (s : State) : (s.settle).powerOns = s.powerOns := by unfold State.settle; rfl
@[simp] theorem rstHigh_settle (s : State) : (s.settle).rstHigh = s.rstHigh := by unfold State.settle; rfl
@[simp] theorem powerOnReset_settle (s : State) : (s.settle).powerOnReset = s.powerOnReset := by unfold State.settle; rfl
@[simp] theorem runDown_settle (s : State) : (s.settle).runDown = s.runDown := by unfold State.settle; rfl
@[simp] theorem pending_settle (s : State) : (s.settle).pending = s.pending := by unfold State.settle; rfl
@[simp] theorem contents_settle (s : State) : (s.settle).contents = s.contents := by unfold State.settle; rfl
@[simp] theorem conditions_settle (s : State) : (s.settle).conditions = s.conditions := by unfold State.settle; rfl
@[simp] theorem calRunDue_settle (s : State) : (s.settle).calRunDue = s.calRunDue := by unfold State.settle; rfl
@[simp] theorem path_settle (s : State) : (s.settle).path = s.path := by unfold State.settle; rfl
@[simp] theorem window_settle (s : State) : (s.settle).window = s.window := by unfold State.settle; rfl
@[simp] theorem spacing_settle (s : State) : (s.settle).spacing = s.spacing := by unfold State.settle; rfl
@[simp] theorem table_settle (s : State) : (s.settle).table = s.table := by unfold State.settle; rfl
@[simp] theorem ageCounter_settle (s : State) : (s.settle).ageCounter = s.ageCounter := by unfold State.settle; rfl
@[simp] theorem portA_settle (s : State) : (s.settle).portA = s.portA := by unfold State.settle; rfl
@[simp] theorem portB_settle (s : State) : (s.settle).portB = s.portB := by unfold State.settle; rfl
@[simp] theorem maint_settle (s : State) : (s.settle).maint = s.maint := by unfold State.settle; rfl
@[simp] theorem scrub_settle (s : State) : (s.settle).scrub = s.scrub := by unfold State.settle; rfl
@[simp] theorem fill_settle (s : State) : (s.settle).fill = s.fill := by unfold State.settle; rfl
@[simp] theorem errors_settle (s : State) : (s.settle).errors = s.errors := by unfold State.settle; rfl
@[simp] theorem owner_settle (s : State) : (s.settle).owner = s.owner := by unfold State.settle; rfl
@[simp] theorem regions_settle (s : State) : (s.settle).regions = s.regions := by unfold State.settle; rfl
@[simp] theorem mgmt_settle (s : State) : (s.settle).mgmt = s.mgmt := by unfold State.settle; rfl
@[simp] theorem store_settle (s : State) : (s.settle).store = s.store := by unfold State.settle; rfl

/-! ### What the updates set -/

@[simp] theorem now_at (s : State) (t : Time) : (s.at t).now = max s.now t := rfl
@[simp] theorem banks_setBank (s : State) (b : Fin 16) (r : Bank) : (s.setBank b r).banks = s.banks.set b r := rfl
@[simp] theorem table_setEntry (s : State) (k : Nat) (e : Entry) : (s.setEntry k e).table = Sparse.insert s.table k e := rfl
@[simp] theorem table_clearSlot (s : State) (k : Nat) : (s.clearSlot k).table = Sparse.erase s.table k := rfl
@[simp] theorem conditions_setCondition (s : State) (b : Nat) (c : Condition) :
    (s.setCondition b c).conditions = Sparse.insert s.conditions b c := rfl
@[simp] theorem path_freePath (s : State) (d : Direction) : (s.freePath d).path = ⟨none, some d, some s.now⟩ := rfl

@[simp] theorem port_setPort_self (s : State) (p : Port) (r : PortRec) : (s.setPort p r).port p = r := by cases p <;> rfl
theorem port_setPort_of_ne (s : State) (p q : Port) (r : PortRec) (h : q ≠ p) : (s.setPort p r).port q = s.port q := by
  cases p <;> cases q <;> first | rfl | exact absurd rfl h
@[simp] theorem link_setLink_self (s : State) (p : Port) (l : Link) : (s.setLink p l).link p = l := by cases p <;> rfl
theorem link_setLink_of_ne (s : State) (p q : Port) (l : Link) (h : q ≠ p) : (s.setLink p l).link q = s.link q := by
  cases p <;> cases q <;> first | rfl | exact absurd rfl h
@[simp] theorem setPort_port (s : State) (p : Port) : s.setPort p (s.port p) = s := by cases p <;> rfl
@[simp] theorem setPort_setPort (s : State) (p : Port) (r r' : PortRec) : (s.setPort p r).setPort p r' = s.setPort p r' := by
  cases p <;> rfl
@[simp] theorem setLink_setLink (s : State) (p : Port) (l l' : Link) : (s.setLink p l).setLink p l' = s.setLink p l' := by
  cases p <;> rfl
@[simp] theorem replies_setLink (s : State) (p q : Port) (l : Link) : ((s.setLink p l).port q).replies = (s.port q).replies := by
  cases p <;> cases q <;> rfl
@[simp] theorem session_setLink (s : State) (p q : Port) (l : Link) : ((s.setLink p l).port q).session = (s.port q).session := by
  cases p <;> cases q <;> rfl
@[simp] theorem vote_setLink (s : State) (p q : Port) (l : Link) : ((s.setLink p l).port q).vote = (s.port q).vote := by
  cases p <;> cases q <;> rfl
@[simp] theorem port_settle (s : State) (p : Port) : s.settle.port p = s.port p := by cases p <;> rfl
@[simp] theorem link_settle (s : State) (p : Port) : s.settle.link p = s.link p := by cases p <;> rfl
@[simp] theorem port_setBank (s : State) (b : Fin 16) (r : Bank) (p : Port) : (s.setBank b r).port p = s.port p := by
  cases p <;> rfl

@[simp] theorem bank_setBank_self (s : State) (b : Fin 16) (r : Bank) : (s.setBank b r).bank b = r := by
  simp [State.bank, State.setBank]
theorem bank_setBank_of_ne (s : State) (b c : Fin 16) (r : Bank) (h : c ≠ b) : (s.setBank b r).bank c = s.bank c := by
  have : b.val ≠ c.val := fun e => h (Fin.ext e.symm)
  simp [State.bank, State.setBank, this]
@[simp] theorem bank_mapBanks (s : State) (f : Fin 16 → Bank → Bank) (b : Fin 16) : (s.mapBanks f).bank b = f b (s.bank b) := by
  simp [State.bank, State.mapBanks]
@[simp] theorem bank_settle (s : State) (b : Fin 16) : s.settle.bank b = s.settleBank b (s.bank b) := by
  simp [State.bank, State.settle]

end Sys2Proof.Machine
end

