-- ==== Sys2Proof/Laws/Ports.lean ====
section
/-! SUPPORT. What the operations over a port's link can do: each changes the record of its own port and nothing else. -/

namespace Sys2Proof.Machine

/-- Of everything, only the record of port `p` differs. -/
def OnlyPort (p : Port) (s t : State) : Prop := ∃ r, t = s.setPort p r

theorem OnlyPort.refl (p : Port) (s : State) : OnlyPort p s s := ⟨s.port p, (setPort_port s p).symm⟩

theorem OnlyPort.trans {p : Port} {s t u : State} (h : OnlyPort p s t) (k : OnlyPort p t u) : OnlyPort p s u := by
  obtain ⟨r, rfl⟩ := h
  obtain ⟨q, rfl⟩ := k
  exact ⟨q, setPort_setPort s p r q⟩

/-- The other port's record is as it was. -/
theorem OnlyPort.other {p q : Port} {s t : State} (h : OnlyPort p s t) (ne : q ≠ p) : t.port q = s.port q := by
  obtain ⟨r, rfl⟩ := h
  exact port_setPort_of_ne s p q r ne

theorem onlyPort_setLink (s : State) (p : Port) (l : Link) : OnlyPort p s (s.setLink p l) := ⟨_, rfl⟩

theorem onlyPort_emit (s : State) (p : Port) (f : Frame) : OnlyPort p s (s.emit p f) := ⟨_, rfl⟩

theorem onlyPort_setVote (s : State) (p : Port) (v : Bool) : OnlyPort p s (s.setVote p v) := ⟨_, rfl⟩

theorem onlyPort_sendAck (s : State) (p : Port) : OnlyPort p s (s.sendAck p) :=
  (onlyPort_setLink s p _).trans (onlyPort_emit _ p _)

theorem onlyPort_sendReplayReq (s : State) (p : Port) : OnlyPort p s (s.sendReplayReq p) := onlyPort_emit s p _

theorem onlyPort_sendMessage (s : State) (p : Port) (m : Message) : OnlyPort p s (s.sendMessage p m) :=
  (onlyPort_setLink s p _).trans (onlyPort_emit _ p _)

theorem onlyPort_raiseNotice (s : State) (p : Port) (n : Notice) : OnlyPort p s (s.raiseNotice p n) := by
  unfold State.raiseNotice
  split
  · exact onlyPort_setLink s p _
  · exact OnlyPort.refl p s

theorem onlyPort_returnCredit (s : State) (p : Port) (cls : RequestClass) : OnlyPort p s (s.returnCredit p cls) := by
  unfold State.returnCredit
  split
  · exact onlyPort_setLink s p _
  · exact OnlyPort.refl p s

theorem onlyPort_findLoss (s : State) (p : Port) : OnlyPort p s (s.findLoss p) :=
  (onlyPort_sendReplayReq s p).trans (onlyPort_setLink _ p _)

theorem onlyPort_sendAgain (s : State) (p : Port) (f : BufferedFrame) : OnlyPort p s (s.sendAgain p f) :=
  (onlyPort_setLink s p _).trans (onlyPort_emit _ p _)

theorem onlyPort_acceptFrame (s : State) (p : Port) (cls : Option RequestClass) : OnlyPort p s (s.acceptFrame p cls) := by
  unfold State.acceptFrame
  simp only
  split
  · exact (onlyPort_setLink s p _).trans (onlyPort_sendAck _ p)
  · exact onlyPort_setLink s p _

theorem onlyPort_answerTrain (s : State) (p : Port) (revision : Byte) : OnlyPort p s (s.answerTrain p revision) :=
  (onlyPort_setLink s p _).trans (onlyPort_emit _ p _)

end Sys2Proof.Machine
end

