-- ==== Sys2Proof/Laws/Effects.lean ====
section
/-! SUPPORT. What each shared operation can do, said once: which pieces of the state it may change, everything else as it
was. -/

namespace Sys2Proof.Machine

/-! ### The table and the ports -/

/-- Of everything, only the table and the two ports' records differ. -/
def TouchesTable (s t : State) : Prop := ∃ table a b, t = { s with table := table, portA := a, portB := b }

theorem TouchesTable.refl (s : State) : TouchesTable s s := ⟨s.table, s.portA, s.portB, rfl⟩

theorem TouchesTable.trans {s t u : State} (h : TouchesTable s t) (k : TouchesTable t u) : TouchesTable s u := by
  obtain ⟨_, _, _, rfl⟩ := h
  obtain ⟨table, a, b, rfl⟩ := k
  exact ⟨table, a, b, rfl⟩

theorem OnlyPort.touchesTable {p : Port} {s t : State} (h : OnlyPort p s t) : TouchesTable s t := by
  obtain ⟨r, rfl⟩ := h
  cases p
  · exact ⟨s.table, r, s.portB, rfl⟩
  · exact ⟨s.table, s.portA, r, rfl⟩

theorem touchesTable_setTable (s : State) (table : List (Nat × Entry)) : TouchesTable s { s with table := table } :=
  ⟨table, s.portA, s.portB, rfl⟩

theorem touchesTable_setPort (s : State) (p : Port) (r : PortRec) : TouchesTable s (s.setPort p r) :=
  OnlyPort.touchesTable ⟨r, rfl⟩

theorem touchesTable_freeSlotOf (s : State) (slot : Nat) : TouchesTable s (s.freeSlotOf slot) := by
  unfold State.freeSlotOf
  split
  · exact .refl s
  · split
    · exact touchesTable_setTable s _
    · exact (touchesTable_setTable s _).trans (onlyPort_returnCredit _ _ _).touchesTable

theorem touchesTable_barrierDone (s : State) (slot : Nat) (e : Entry) : TouchesTable s (s.barrierDone slot e) := by
  unfold State.barrierDone
  split
  · exact .refl s
  · split
    · exact touchesTable_freeSlotOf s slot
    · exact touchesTable_setPort s _ _

theorem touchesTable_foldBarriers (l : List (Nat × Entry)) (s : State) :
    TouchesTable s (l.foldl (fun s x => s.barrierDone x.1 x.2) s) := by
  induction l generalizing s with
  | nil => exact .refl s
  | cons x t ih => exact (touchesTable_barrierDone s x.1 x.2).trans (ih _)

theorem touchesTable_reevaluatePass (s : State) : TouchesTable s s.reevaluatePass :=
  (touchesTable_setTable s _).trans (touchesTable_foldBarriers _ _)

theorem touchesTable_reevaluateFor (n : Nat) (s : State) : TouchesTable s (reevaluateFor n s) := by
  induction n generalizing s with
  | zero => exact touchesTable_reevaluatePass s
  | succ n ih =>
    unfold reevaluateFor
    split
    · exact (touchesTable_reevaluatePass s).trans (ih _)
    · exact touchesTable_reevaluatePass s

theorem touchesTable_reevaluate (s : State) : TouchesTable s s.reevaluate := touchesTable_reevaluateFor _ s

theorem touchesTable_orphanPort (s : State) (p : Port) : TouchesTable s (s.orphanPort p) :=
  ((touchesTable_setPort s p _).trans (touchesTable_setTable _ _)).trans (touchesTable_reevaluate _)

theorem touchesTable_removeVote (s : State) (p : Port) : TouchesTable s (s.removeVote p) := by
  unfold State.removeVote
  split
  · exact (onlyPort_setVote s p _).touchesTable.trans (onlyPort_raiseNotice _ _ _).touchesTable
  · exact .refl s

theorem touchesTable_raiseBoth (s : State) (n : Notice) : TouchesTable s (s.raiseBoth n) :=
  (onlyPort_raiseNotice s .a n).touchesTable.trans (onlyPort_raiseNotice _ .b n).touchesTable

theorem touchesTable_place (s : State) (slot : Nat) (e : Entry) : TouchesTable s (s.place slot e) := by
  unfold State.place
  simp only
  split
  · exact (touchesTable_setTable s _).trans (touchesTable_barrierDone _ _ _)
  · exact touchesTable_setTable s _

theorem touchesTable_arbiterTake (s : State) (p : Port) : TouchesTable s (s.arbiterTake p) := by
  unfold State.arbiterTake
  split
  · exact (touchesTable_setPort s p _).trans (onlyPort_sendMessage _ p _).touchesTable
  · split
    · split
      · exact (((touchesTable_setPort s p _).trans (touchesTable_freeSlotOf _ _)).trans (touchesTable_reevaluate _)).trans
          (onlyPort_sendMessage _ p _).touchesTable
      · exact .refl s
    · split
      · exact (touchesTable_setPort s p _).trans (onlyPort_sendMessage _ p _).touchesTable
      · exact .refl s

/-! ### A session: the table, the ports, the management queue, the fill record -/

/-- Of everything, only the table, the ports' records, the Management Unit and the fill record differ. -/
def TouchesSession (s t : State) : Prop :=
  ∃ table a b mgmt fill, t = { s with table := table, portA := a, portB := b, mgmt := mgmt, fill := fill }

theorem TouchesSession.refl (s : State) : TouchesSession s s := ⟨s.table, s.portA, s.portB, s.mgmt, s.fill, rfl⟩

theorem TouchesSession.trans {s t u : State} (h : TouchesSession s t) (k : TouchesSession t u) : TouchesSession s u := by
  obtain ⟨_, _, _, _, _, rfl⟩ := h
  obtain ⟨table, a, b, mgmt, fill, rfl⟩ := k
  exact ⟨table, a, b, mgmt, fill, rfl⟩

theorem TouchesTable.session {s t : State} (h : TouchesTable s t) : TouchesSession s t := by
  obtain ⟨table, a, b, rfl⟩ := h
  exact ⟨table, a, b, s.mgmt, s.fill, rfl⟩

theorem OnlyPort.session {p : Port} {s t : State} (h : OnlyPort p s t) : TouchesSession s t := h.touchesTable.session

theorem touchesSession_dropRequests (s : State) (p : Port) : TouchesSession s (s.dropRequests p) :=
  ⟨s.table, s.portA, s.portB, _, _, rfl⟩

theorem touchesSession_linkDown (s : State) (p : Port) (why : DownReason) : TouchesSession s (s.linkDown p why) := by
  unfold State.linkDown
  split
  · simp only
    refine .trans (.trans (.trans (.trans ?_ (onlyPort_setLink _ p _).session) (touchesTable_orphanPort _ p).session)
      (touchesSession_dropRequests _ p)) (touchesTable_removeVote _ p).session
    split
    · exact (onlyPort_emit s p _).session
    · exact .refl s
  · exact .refl s

theorem touchesSession_retryAttempt (s : State) (p : Port) : TouchesSession s (s.retryAttempt p) := by
  unfold State.retryAttempt
  simp only
  split
  · exact touchesSession_linkDown s p _
  · exact (onlyPort_setLink s p _).session

theorem touchesSession_placeControl (s : State) (p : Port) (m : Message) : TouchesSession s (s.placeControl p m) := by
  unfold State.placeControl
  split
  · simp only
    split
    · exact touchesSession_linkDown s p _
    · exact (onlyPort_setLink s p _).session
  · exact .refl s

theorem touchesSession_replyAndLetGo (s : State) (p : Port) (m : Message) : TouchesSession s (s.replyAndLetGo p m) :=
  (touchesSession_placeControl s p m).trans (onlyPort_returnCredit _ p _).session

theorem touchesSession_refuseMemory (s : State) (p : Port) (h : BodyHead) (why : Reason) :
    TouchesSession s (s.refuseMemory p h why) :=
  (touchesSession_placeControl s p _).trans (onlyPort_returnCredit _ p _).session

theorem touchesSession_noteRestart (s : State) (p : Port) (dropped : List BufferedFrame) :
    TouchesSession s (s.noteRestart p dropped) := by
  unfold State.noteRestart
  split
  · exact ⟨s.table, s.portA, s.portB, _, s.fill, rfl⟩
  · exact .refl s

theorem touchesSession_ackProgress (s : State) (p : Port) (n : Nat) : TouchesSession s (s.ackProgress p n) :=
  (onlyPort_setLink s p _).session.trans (touchesSession_noteRestart _ p _)

theorem touchesSession_takeAck (s : State) (p : Port) (ackSeq : Byte) (ackValid : Bool) :
    TouchesSession s (s.takeAck p ackSeq ackValid) := by
  unfold State.takeAck
  split
  · simp only
    split
    · exact touchesSession_ackProgress s p _
    · split
      · exact .refl s
      · exact touchesSession_linkDown s p _
  · exact .refl s

theorem touchesSession_rewind (s : State) (p : Port) (number : Byte) : TouchesSession s (s.rewind p number) := by
  unfold State.rewind
  simp only
  refine .trans (.trans ?_ (onlyPort_setLink _ p _).session) (touchesSession_retryAttempt _ p)
  split
  · exact touchesSession_ackProgress s p _
  · exact .refl s

/-! ### Entries coming and going: a session, with the ages, the scrub record and the power record -/

/-- Of everything, only the table, the ports' records, the Management Unit, the fill record, the age counter, the scrub
record and the power record differ. -/
def TouchesEntries (s t : State) : Prop :=
  ∃ table a b mgmt fill ages scrub power, t = { s with
    table := table, portA := a, portB := b, mgmt := mgmt, fill := fill, ageCounter := ages, scrub := scrub, power := power }

theorem TouchesEntries.refl (s : State) : TouchesEntries s s :=
  ⟨s.table, s.portA, s.portB, s.mgmt, s.fill, s.ageCounter, s.scrub, s.power, rfl⟩

theorem TouchesEntries.trans {s t u : State} (h : TouchesEntries s t) (k : TouchesEntries t u) : TouchesEntries s u := by
  obtain ⟨_, _, _, _, _, _, _, _, rfl⟩ := h
  obtain ⟨table, a, b, mgmt, fill, ages, scrub, power, rfl⟩ := k
  exact ⟨table, a, b, mgmt, fill, ages, scrub, power, rfl⟩

theorem TouchesSession.entries {s t : State} (h : TouchesSession s t) : TouchesEntries s t := by
  obtain ⟨table, a, b, mgmt, fill, rfl⟩ := h
  exact ⟨table, a, b, mgmt, fill, s.ageCounter, s.scrub, s.power, rfl⟩

theorem TouchesTable.entries {s t : State} (h : TouchesTable s t) : TouchesEntries s t := h.session.entries

theorem touchesEntries_setFill (s : State) (fill : Option Fill) : TouchesEntries s { s with fill := fill } :=
  ⟨s.table, s.portA, s.portB, s.mgmt, fill, s.ageCounter, s.scrub, s.power, rfl⟩

theorem touchesEntries_setScrub (s : State) (scrub : Scrub) : TouchesEntries s { s with scrub := scrub } :=
  ⟨s.table, s.portA, s.portB, s.mgmt, s.fill, s.ageCounter, scrub, s.power, rfl⟩

theorem touchesEntries_takeAge (s : State) : TouchesEntries s s.takeAge :=
  ⟨s.table, s.portA, s.portB, s.mgmt, s.fill, _, s.scrub, s.power, rfl⟩

theorem touchesEntries_endNap (s : State) : TouchesEntries s s.endNap := by
  unfold State.endNap
  split
  · exact ⟨s.table, s.portA, s.portB, s.mgmt, s.fill, s.ageCounter, s.scrub, _, rfl⟩
  · exact .refl s

theorem touchesEntries_maintenanceAdmission (s : State) (kind : EntryKind) (first age : Nat) (data : List (List Byte))
    (slot : Nat) : TouchesEntries s (s.maintenanceAdmission kind first age data slot) :=
  (touchesTable_place s slot _).entries.trans (touchesEntries_endNap _)

theorem touchesEntries_admission (s : State) (p : Port) (tag : Byte) (r : MemRequest) (slot : Nat) :
    TouchesEntries s (s.admission p tag r slot) :=
  (((touchesEntries_takeAge s).trans (touchesTable_place _ _ _).entries).trans (touchesEntries_endNap _)).trans
    (touchesTable_removeVote _ p).entries

theorem touchesEntries_intake (s : State) (p : Port) (h : BodyHead) (r : MemRequest) (t : State) (k : s.intake p h r = some t) :
    TouchesEntries s t := by
  unfold State.intake at k
  split at k
  · cases k
    exact (touchesSession_refuseMemory s p h _).entries
  · obtain ⟨slot, _, rfl⟩ := Option.map_eq_some_iff.1 k
    exact touchesEntries_admission s p h.tag r slot

theorem touchesEntries_takeStep (s : State) (slot : Nat) : TouchesEntries s (s.takeStep slot) :=
  ((touchesEntries_takeAge s).trans (touchesEntries_maintenanceAdmission _ _ _ _ _ _)).trans (touchesEntries_setScrub _ _)

theorem touchesEntries_takePendingStep (s : State) : TouchesEntries s s.takePendingStep := by
  unfold State.takePendingStep
  split
  · split
    · exact (touchesEntries_takeStep s _).trans (touchesEntries_setScrub _ _)
    · exact .refl s
  · exact .refl s

theorem touchesEntries_createFillEntry (s : State) : TouchesEntries s s.createFillEntry := by
  unfold State.createFillEntry
  split
  · exact .refl s
  · split
    · split
      · exact .refl s
      · exact (touchesEntries_maintenanceAdmission s _ _ _ _ _).trans (touchesEntries_setFill _ _)
    · exact .refl s

theorem touchesEntries_createFillEntries (s : State) : TouchesEntries s s.createFillEntries :=
  ((touchesEntries_createFillEntry s).trans (touchesEntries_createFillEntry _)).trans (touchesEntries_createFillEntry _)

theorem touchesEntries_removeFill (s : State) : TouchesEntries s s.removeFill :=
  ((touchesEntries_setFill s none).trans (touchesTable_reevaluate _).entries).trans (touchesEntries_takePendingStep _)

theorem touchesEntries_fillEntryFreed (s : State) : TouchesEntries s s.fillEntryFreed := by
  unfold State.fillEntryFreed
  split
  · exact (touchesTable_reevaluate s).entries
  · next f _ =>
    refine .trans ((touchesEntries_setFill s (some { f with inFlight := f.inFlight - 1 })).trans
      (touchesEntries_createFillEntries _)) ?_
    simp only
    split
    · exact (touchesTable_reevaluate _).entries
    · split
      · exact (touchesTable_reevaluate _).entries
      · split
        · split
          · exact touchesEntries_removeFill _
          · exact (touchesEntries_removeFill _).trans (touchesSession_replyAndLetGo _ _ _).entries
        · split
          · exact (touchesEntries_removeFill _).trans (onlyPort_raiseNotice _ _ _).touchesTable.entries
          · exact (touchesTable_reevaluate _).entries

/-- An entry that becomes DONE reaches no bank, no path, no contents and no condition. -/
theorem touchesEntries_entryDone (s : State) (slot : Nat) (e : Entry) : TouchesEntries s (s.entryDone slot e) := by
  unfold State.entryDone
  split
  · split
    · exact ((touchesTable_freeSlotOf s slot).trans (touchesTable_reevaluate _)).entries
    · exact ((touchesTable_setTable s _).trans (touchesTable_setPort _ _ _)).entries
  · simp only
    split
    · exact (touchesTable_setTable s _).entries.trans (touchesEntries_fillEntryFreed _)
    · exact ((touchesTable_setTable s _).trans (touchesTable_reevaluate _)).entries.trans (touchesEntries_takePendingStep _)

end Sys2Proof.Machine
end

