-- ==== Sys2Proof/Laws/Settle.lean ====
section
/-! SUPPORT. What the end of an event does to the timers that follow conditions: nothing to the rest of the state. -/

namespace Sys2Proof.Machine

theorem settleBank_untimed (s : State) (b : Fin 16) (r : Bank) : (s.settleBank b r).untimed = r.untimed := by
  unfold State.settleBank
  simp only
  split
  · split
    · rfl
    · split <;> rfl
  · rfl

theorem settlePower_untimed (s : State) :
    { s.settlePower with idleDue := none, napDue := false } = { s.power with idleDue := none, napDue := false } := by
  unfold State.settlePower
  split
  · split <;> rfl
  · rfl

/-- Settling changes the idle-close timers and decisions and the NAP idle timer alone. -/
theorem untimed_settle (s : State) : s.settle.untimed = s.untimed := by
  have hb : (Vector.ofFn fun b => (s.settle.bank b).untimed) = Vector.ofFn fun b => (s.bank b).untimed :=
    congrArg Vector.ofFn (funext fun b => by rw [bank_settle, settleBank_untimed])
  have hp := settlePower_untimed s
  unfold State.untimed
  rw [hb]
  simp only [State.settle, hp]

/-- A bank's idle-close timer runs only where the conditions of R57 hold. -/
theorem settleBank_idleDue_none (s : State) (b : Fin 16) (r : Bank) (h : s.idleCloseConditions b = false) :
    (s.settleBank b r).idleDue = none := by
  unfold State.settleBank
  simp [h]

end Sys2Proof.Machine
end

