-- ==== Sys2Proof/Laws/Requests.lean ====
section
/-! SUPPORT. A management request that meets `State.readyForRequest`: accepted, taken at once, and nothing else. -/

namespace Sys2Proof.Machine

/-! ### What an acceptance leaves (R137) -/

@[simp] theorem accepted_state (l : Link) (now : Time) (cls : Option RequestClass) :
    (l.accepted now cls).state = l.state := by
  unfold Link.accepted Link.takeCredit Link.lossEnded Link.startAckTimer
  rcases cls with _ | _ | _ <;> grind

@[simp] theorem accepted_control (l : Link) (now : Time) (cls : Option RequestClass) :
    (l.accepted now cls).control = l.control := by
  unfold Link.accepted Link.takeCredit Link.lossEnded Link.startAckTimer
  rcases cls with _ | _ | _ <;> grind

@[simp] theorem accepted_unacked (l : Link) (now : Time) (cls : Option RequestClass) :
    (l.accepted now cls).unacked = l.unacked + 1 := by
  unfold Link.accepted Link.takeCredit Link.lossEnded Link.startAckTimer
  rcases cls with _ | _ | _ <;> grind

theorem accepted_eq (l : Link) (now : Time) (cls : Option RequestClass) :
    l.accepted now cls = { l with
      expected := l.expected + 1
      awaitingReplay := false
      replayRequestDue := none
      retry := 0
      ackValid := true
      unacked := l.unacked + 1
      ackDue := if l.unacked = 0 then some (l.ackDue.getD (now + us 1)) else l.ackDue
      memOut := if cls = some .memory then l.memOut - 1 else l.memOut
      mgmtOut := if cls = some .management then l.mgmtOut - 1 else l.mgmtOut } := by
  unfold Link.accepted Link.takeCredit Link.lossEnded Link.startAckTimer ackDelay
  rcases cls with _ | _ | _ <;> by_cases hz : l.unacked = 0 <;> cases hd : l.ackDue <;> simp [hz, hd]

/-- All that an acceptance does, the ACK frame of the sixteenth with it (R137, R139). -/
theorem acceptFrame_eq (s : State) (p : Port) (cls : Option RequestClass) :
    s.acceptFrame p cls = s.setPort p ((s.port p).accepting s.now cls) := by
  by_cases hu : (s.port p).link.unacked < 15
  · have hn : ¬ 16 ≤ (s.port p).link.unacked + 1 := by omega
    cases p <;> simp only [State.port] at hu hn <;>
      simp [State.acceptFrame, PortRec.accepting, accepted_eq, State.setLink, State.setPort, State.port, State.link, hu, hn] <;>
      rfl
  · have hn : 16 ≤ (s.port p).link.unacked + 1 := by omega
    by_cases hq : (s.port p).link.control.length < 12 <;> cases p <;> simp only [State.port] at hu hn hq <;>
      simp [State.acceptFrame, PortRec.accepting, accepted_eq, State.sendAck, State.emit, Link.headerBuilt, Link.memReturned,
        Link.mgmtReturned, Link.returnsCredits, State.setLink, State.setPort, State.port, State.link, hu, hn, hq,
        BitVec.add_sub_cancel]

/-! ### A request that is ready -/

theorem linkActive_of_ready {s : State} {p : Port} {tag : Byte} (h : s.readyForRequest p tag) :
    (s.link p).state = .active := by
  have := h.1
  simp [State.receives, State.linkActive] at this
  exact this.1

/-- What a request that is ready does: its effect on the state with its frame accepted, and the settling of the timers. -/
theorem requestArrives_of_ready {s : State} {p : Port} {tag : Byte} (h : s.readyForRequest p tag) (block : BitVec 32)
    (r : MgmtRequest) :
    s.requestArrives p tag block r =
      .next (takeRequest ⟨p, tag, r⟩ (s.setLink p ((s.link p).accepted s.now (some .management)))).settle := by
  obtain ⟨hr, ho, hu, ht, hc, hf, hq⟩ := h
  have hnc : (s.link p).noCredit (some .management) = false := by simp [Link.noCredit, Link.outstanding, ho]
  have hun : ¬ 16 ≤ ((s.setLink p ((s.link p).accepted s.now (some .management))).link p).unacked := by
    rw [link_setLink_self, accepted_unacked]
    omega
  have hm : s.mgmt = ⟨[], .free⟩ := by rw [← hf, ← hq]
  have hti : (s.setLink p ((s.link p).accepted s.now (some .management))).tagInUse p tag = false := by
    simpa [State.tagInUse] using ht
  unfold State.requestArrives State.acceptMessage
  simp only [hr, Parsed.creditClass, hnc, State.acceptFrame, hun, State.decoderRefusal, hti, State.route, if_false,
    Bool.false_eq_true, Bool.true_eq_false]
  congr 1
  unfold State.finish State.drain State.enqueue
  simp only [mgmt_setLink, hm, List.nil_append, List.length_singleton, drainFor]
  have e : ∀ t : State, t.mgmt = ⟨[], .free⟩ → { t with mgmt := ⟨[], .free⟩ } = t := fun t h => by rw [← h]
  rw [e _ (by simp [hm])]

/-- A reply is placed and the credit comes back: the reply at the tail of the control queue, the credit pending (R144 to
R146). -/
theorem replyAndLetGo_eq {s : State} {p : Port} (ha : (s.link p).state = .active) (hc : (s.link p).control.length < 64)
    (m : Message) :
    s.replyAndLetGo p m = s.setLink p { s.link p with
      control := (s.link p).control ++ [m]
      ackDue := some ((s.link p).ackDue.getD (s.now + us 1))
      mgmtPend := (s.link p).mgmtPend + 1 } := by
  have hn : ¬ 64 ≤ (s.link p).control.length := by omega
  simp only [State.replyAndLetGo, State.placeControl, State.linkActive, ha, decide_true, if_true, hn, if_false,
    State.returnCredit, link_setLink_self, now_setLink, setLink_setLink]
  congr 1
  cases (s.link p).ackDue <;> simp [Link.startAckTimer, ackDelay]

/-- The acceptance of a request's frame and its answer, put together. -/
theorem answered_eq {s : State} {p : Port} {tag : Byte} (h : s.readyForRequest p tag) (m : Message) :
    (s.setLink p ((s.link p).accepted s.now (some .management))).replyAndLetGo p m = s.answered p m := by
  have ha := linkActive_of_ready h
  obtain ⟨_, _, _, _, hc, _, _⟩ := h
  rw [replyAndLetGo_eq (by simpa using ha) (by simpa using hc)]
  simp only [link_setLink_self, now_setLink, setLink_setLink, State.answered]
  congr 1
  cases hd : (s.link p).ackDue <;> by_cases hz : (s.link p).unacked = 0 <;>
    simp [Link.accepted, Link.takeCredit, Link.lossEnded, Link.startAckTimer, Link.answered, hd, hz, ackDelay]

/-- A request answered after its own effect, which left the port's link and the present as they were. -/
theorem answered_eq_of {s t : State} {p : Port} {tag : Byte} (h : s.readyForRequest p tag) (hl : t.link p = s.link p)
    (hn : t.now = s.now) (m : Message) :
    (t.setLink p ((s.link p).accepted s.now (some .management))).replyAndLetGo p m = t.answered p m := by
  have ha := linkActive_of_ready h
  obtain ⟨_, _, _, _, hc, _, _⟩ := h
  rw [replyAndLetGo_eq (by simpa using ha) (by simpa using hc)]
  simp only [link_setLink_self, now_setLink, setLink_setLink, State.answered, hl, hn]
  congr 1
  cases hd : (s.link p).ackDue <;> by_cases hz : (s.link p).unacked = 0 <;>
    simp [Link.accepted, Link.takeCredit, Link.lossEnded, Link.startAckTimer, Link.answered, hd, hz, ackDelay]

theorem answerFail_eq {s : State} {p : Port} {tag : Byte} (h : s.readyForRequest p tag) (t : Byte) (kind : Nat)
    (why : Reason) : (s.setLink p ((s.link p).accepted s.now (some .management))).answerFail p t kind why =
      s.answered p (failReply t kind (reasonCode why) 0) := answered_eq h _

theorem answerOk_eq {s : State} {p : Port} {tag : Byte} (h : s.readyForRequest p tag) (t : Byte) (kind : Nat)
    (block extra : BitVec 32) (payload : List Byte) :
    (s.setLink p ((s.link p).accepted s.now (some .management))).answerOk p t kind block extra payload =
      s.answered p (okReply t kind block extra payload) := answered_eq h _

end Sys2Proof.Machine
end

