-- ==== Sys2Proof/Laws/Sparse.lean ====
section
/-! SUPPORT. Sparse data: what listing and unlisting a key leave to be found, and that the canonical form is kept. -/

namespace Sys2Proof.Machine

variable {α : Type}

@[simp] theorem Sparse.find?_nil (k : Nat) : Sparse.find? ([] : List (Nat × α)) k = none := rfl

theorem Sparse.find?_cons (k' : Nat) (v : α) (t : List (Nat × α)) (k : Nat) :
    Sparse.find? ((k', v) :: t) k = if k = k' then some v else Sparse.find? t k := rfl

@[simp] theorem Sparse.find?_insert_self (l : List (Nat × α)) (k : Nat) (v : α) :
    Sparse.find? (Sparse.insert l k v) k = some v := by
  induction l with
  | nil => simp [Sparse.insert, Sparse.find?]
  | cons x t ih => grind [Sparse.insert, Sparse.find?]

theorem Sparse.find?_insert_of_ne (l : List (Nat × α)) (k j : Nat) (v : α) (h : j ≠ k) :
    Sparse.find? (Sparse.insert l k v) j = Sparse.find? l j := by
  induction l with
  | nil => simp [Sparse.insert, Sparse.find?, h]
  | cons x t ih => grind [Sparse.insert, Sparse.find?]

@[simp] theorem Sparse.find?_erase_self (l : List (Nat × α)) (k : Nat) : Sparse.find? (Sparse.erase l k) k = none := by
  induction l with
  | nil => rfl
  | cons x t ih => grind [Sparse.erase, Sparse.find?]

theorem Sparse.find?_erase_of_ne (l : List (Nat × α)) (k j : Nat) (h : j ≠ k) :
    Sparse.find? (Sparse.erase l k) j = Sparse.find? l j := by
  induction l with
  | nil => rfl
  | cons x t ih => grind [Sparse.erase, Sparse.find?]

/-- What is found is listed. -/
theorem Sparse.mem_of_find? {l : List (Nat × α)} {k : Nat} {v : α} (h : Sparse.find? l k = some v) : (k, v) ∈ l := by
  induction l with
  | nil => simp at h
  | cons x t ih => grind [Sparse.find?]

/-- What is listed in canonical form is found. -/
theorem Sparse.find?_of_mem {l : List (Nat × α)} (w : Sparse.Wf l) {k : Nat} {v : α} (h : (k, v) ∈ l) :
    Sparse.find? l k = some v := by
  induction l with
  | nil => simp at h
  | cons x t ih =>
    obtain ⟨k', v'⟩ := x
    rw [Sparse.Wf, List.pairwise_cons] at w
    rcases List.mem_cons.1 h with e | m
    · cases e; simp [Sparse.find?]
    · have : k' < k := w.1 (k, v) m
      simp [Sparse.find?, Nat.ne_of_gt this, ih w.2 m]

/-- What is listed after a key is listed was listed before, or is what was listed. -/
theorem Sparse.mem_insert {l : List (Nat × α)} {k : Nat} {v : α} {x : Nat × α} (h : x ∈ Sparse.insert l k v) :
    x = (k, v) ∨ x ∈ l := by
  induction l with
  | nil => simpa [Sparse.insert] using h
  | cons y t ih => grind [Sparse.insert]

theorem Sparse.wf_insert {l : List (Nat × α)} (w : Sparse.Wf l) (k : Nat) (v : α) : Sparse.Wf (Sparse.insert l k v) := by
  induction l with
  | nil => simp [Sparse.insert]
  | cons y t ih =>
    obtain ⟨k', v'⟩ := y
    rw [Sparse.Wf, List.pairwise_cons] at w
    simp only [Sparse.insert]
    split
    · rename_i lt
      refine List.pairwise_cons.2 ⟨fun x m => ?_, List.pairwise_cons.2 w⟩
      rcases List.mem_cons.1 m with e | m
      · subst e; exact lt
      · exact Nat.lt_trans lt (w.1 x m)
    · split
      · rename_i e
        subst e
        exact List.pairwise_cons.2 w
      · refine List.pairwise_cons.2 ⟨fun x m => ?_, ih w.2⟩
        rcases Sparse.mem_insert m with e | m
        · subst e; simp only; omega
        · exact w.1 x m

theorem Sparse.wf_erase {l : List (Nat × α)} (w : Sparse.Wf l) (k : Nat) : Sparse.Wf (Sparse.erase l k) :=
  List.Pairwise.filter _ w

theorem Sparse.wf_filter {l : List (Nat × α)} (w : Sparse.Wf l) (f : Nat × α → Bool) : Sparse.Wf (l.filter f) :=
  List.Pairwise.filter _ w

theorem Sparse.wf_map {l : List (Nat × α)} (w : Sparse.Wf l) (f : Nat → α → α) : Sparse.Wf (Sparse.map f l) := by
  unfold Sparse.Wf Sparse.map
  rw [List.pairwise_map]
  exact w

theorem Sparse.find?_map (l : List (Nat × α)) (f : Nat → α → α) (k : Nat) :
    Sparse.find? (Sparse.map f l) k = (Sparse.find? l k).map (f k) := by
  induction l with
  | nil => rfl
  | cons x t ih =>
    obtain ⟨k', v'⟩ := x
    by_cases e : k = k'
    · subst e; simp [Sparse.map, Sparse.find?]
    · simpa [Sparse.map, Sparse.find?, e] using ih

end Sys2Proof.Machine
end

