-- ==== Sys2Proof/Laws/Admission.lean ====
section
/-! SUPPORT. What an admission of maintenance work does: the slot it takes (R21, R30), the record it fills (R22, R31), the scrub
step (R108, R109), and what the end of a FILL entry leads to (R113 to R116). -/

namespace Sys2Proof.Machine

/-! ### Slots (R20, R21) -/

/-- The slot chosen is the lowest-numbered FREE one of the partition. -/
theorem freeSlot_eq_some {s : State} {start size k : Nat} (h : s.freeSlot start size = some k) :
    start ≤ k ∧ k < start + size ∧ s.entry k = none ∧ ∀ j, start ≤ j → j < k → s.entry j ≠ none := by
  unfold State.freeSlot at h
  obtain ⟨hk, as, bs, hl, hb⟩ := List.find?_eq_some_iff_append.1 h
  have m : k ∈ (List.range size).map (start + ·) := by rw [hl]; simp
  obtain ⟨i, hi, rfl⟩ := List.mem_map.1 m
  rw [List.mem_range] at hi
  refine ⟨by omega, by omega, by simpa using hk, fun j h1 h2 => ?_⟩
  have mj : j ∈ as := by
    have sorted : ((List.range size).map (start + ·)).Pairwise (· < ·) := by
      rw [List.pairwise_map]
      exact List.pairwise_lt_range.imp fun h => by omega
    have mem : j ∈ (List.range size).map (start + ·) := List.mem_map.2 ⟨j - start, by rw [List.mem_range]; omega, by omega⟩
    rw [hl] at mem sorted
    rcases List.mem_append.1 mem with h | h
    · exact h
    · rw [List.pairwise_append] at sorted
      rcases List.mem_cons.1 h with rfl | h
      · omega
      · have := (List.pairwise_cons.1 sorted.2.1).1 j h
        omega
  have := hb j mj
  intro e
  simp [e] at this

/-- A partition with fewer entries than slots has a FREE slot. -/
theorem freeSlot_isSome {s : State} {start size : Nat} (h : s.occupied start size < size) :
    ∃ k, s.freeSlot start size = some k := by
  cases e : s.freeSlot start size with
  | some k => exact ⟨k, rfl⟩
  | none =>
    exfalso
    unfold State.freeSlot at e
    rw [List.find?_eq_none] at e
    have sub : (List.range size).map (start + ·) ⊆
        (s.table.filter fun x => decide (start ≤ x.1 ∧ x.1 < start + size)).map (·.1) := by
      intro k hk
      have := e k hk
      obtain ⟨i, hi, rfl⟩ := List.mem_map.1 hk
      rw [List.mem_range] at hi
      cases f : s.entry (start + i) with
      | none => simp [f] at this
      | some x =>
        refine List.mem_map.2 ⟨(start + i, x), List.mem_filter.2 ⟨Sparse.mem_of_find? f, ?_⟩, rfl⟩
        exact decide_eq_true ⟨by omega, by omega⟩
    have nodup : ((List.range size).map (start + ·)).Nodup := by
      rw [List.Nodup, List.pairwise_map]
      exact List.pairwise_lt_range.imp fun h => by omega
    have := (List.subperm_of_subset nodup sub).length_le
    simp only [List.length_map, List.length_range] at this
    unfold State.occupied at h
    omega

/-! ### The record of a new entry (R22, R31) -/

/-- A new entry that is no BARRIER: HELD with its hold reasons, or with none QUEUED. -/
theorem newEntry_eq (s : State) (owner : Owner) (kind : EntryKind) (first count age : Nat) (data : List (List Byte))
    (h : kind ≠ .barrier) :
    let e := s.newEntry owner kind first count age data
    e = ⟨owner, kind, first, count, data, age, e.state, e.holds, [], [], none, none⟩ ∧
      e.holds = holdsOf s.table s.fill e ∧ e.state = if e.holds.isEmpty then .queued else .held := by
  have nb : decide (kind = .barrier) = false := decide_eq_false h
  unfold State.newEntry Entry.reheld
  simp only [Entry.isBarrier, nb]
  generalize hh : holdsOf s.table s.fill _ = holds
  cases k : holds.isEmpty
  · simp only [Bool.false_eq_true, if_false, if_true]
    exact ⟨trivial, hh.symm, by simp [k]⟩
  · simp only [Bool.false_eq_true, if_false, if_true]
    exact ⟨trivial, hh.symm, by simp [k]⟩

/-- A new entry that is no BARRIER is placed and nothing else happens. -/
theorem place_newEntry (s t : State) (slot : Nat) (owner : Owner) (kind : EntryKind) (first count age : Nat)
    (data : List (List Byte)) (h : kind ≠ .barrier) :
    t.place slot (s.newEntry owner kind first count age data) =
      t.setEntry slot (s.newEntry owner kind first count age data) := by
  unfold State.place
  have := (newEntry_eq s owner kind first count age data h).2.2
  simp only
  rw [if_neg]
  rw [this]
  split <;> simp

/-! ### Scrub steps (R108, R109) -/

theorem scrubInTable_eq_false (s : State) : s.scrubInTable = false ↔ ∀ x ∈ s.table, x.2.kind ≠ .scrub := by
  simp [State.scrubInTable]

/-- No step can be taken while a SCRUB entry is in the table or a fill runs. -/
theorem stepSlot_eq_none {s : State} (h : (∃ x ∈ s.table, x.2.kind = .scrub) ∨ s.fill ≠ none) : s.stepSlot = none := by
  unfold State.stepSlot State.maintenanceSlot
  rcases h with h | h
  · have e : s.scrubInTable = true := by
      rw [← Bool.not_eq_false, scrubInTable_eq_false]
      intro k
      obtain ⟨x, hx, hk⟩ := h
      exact k x hx hk
    simp [e]
  · have : s.fill.isSome = true := Option.isSome_iff_ne_none.2 h
    simp [this]

/-- With no SCRUB entry, no fill and a FREE maintenance slot a step goes into the lowest such slot. -/
theorem stepSlot_isSome {s : State} (h1 : ∀ x ∈ s.table, x.2.kind ≠ .scrub) (h2 : s.fill = none)
    (h3 : s.heldByMaintenance < 4) : ∃ k, s.stepSlot = some k ∧ s.freeSlot 96 4 = some k := by
  obtain ⟨k, hk⟩ := freeSlot_isSome h3
  refine ⟨k, ?_, hk⟩
  unfold State.stepSlot State.maintenanceSlot
  simp [h2, (scrubInTable_eq_false s).2 h1, hk]

theorem endNap_eq (s : State) : s.endNap = { s with
    power := if s.power.state = .nap then { s.power with state := .active, exitDue := some (s.now + ns 20) } else s.power } := by
  unfold State.endNap napExitDelay
  split <;> rfl

theorem advance_eq (c : Scrub) : c.advance = { c with
    cursor := if c.cursor = 4194303 then 0 else c.cursor + 1
    passes := if c.cursor = 4194303 then min 65535 (c.passes + 1) else c.passes } := by
  unfold Scrub.advance
  by_cases h : c.cursor = 4194303
  · rw [if_pos h, if_pos h, if_pos h]
  · rw [if_neg h, if_neg h, if_neg h]

/-- What the taking of a step does, no fill running. -/
theorem takeStep_eq (s : State) (slot : Nat) (h : s.fill = none) : ∃ e : Entry,
    e = ⟨.maintenance, .scrub, 8 * s.scrub.cursor, 8, [], s.ageCounter, e.state, e.holds, [], [], none, none⟩ ∧
      e.holds = holdsOf s.table none e ∧ (e.state = if e.holds.isEmpty then .queued else .held) ∧
      s.takeStep slot = { s with
        ageCounter := s.ageCounter + 1
        table := Sparse.insert s.table slot e
        power := if s.power.state = .nap then { s.power with state := .active, exitDue := some (s.now + ns 20) } else s.power
        scrub := { s.scrub with
          cursor := if s.scrub.cursor = 4194303 then 0 else s.scrub.cursor + 1
          passes := if s.scrub.cursor = 4194303 then min 65535 (s.scrub.passes + 1) else s.scrub.passes } } := by
  obtain ⟨a, b, c⟩ := newEntry_eq s.takeAge .maintenance .scrub (8 * s.scrub.cursor) 8 s.ageCounter [] (by simp)
  refine ⟨_, a, ?_, c, ?_⟩
  · simpa [State.takeAge, h] using b
  · unfold State.takeStep State.maintenanceAdmission
    rw [place_newEntry _ _ _ _ _ _ _ _ _ (by simp), endNap_eq]
    simp only [advance_eq]
    rfl

/-- A pending step that cannot be taken, and none pending, leave the state as it is. -/
theorem takePendingStep_eq_self {s : State}
    (h : s.scrub.pendingStep = false ∨ (∃ x ∈ s.table, x.2.kind = .scrub) ∨ s.fill ≠ none) : s.takePendingStep = s := by
  unfold State.takePendingStep
  rcases h with h | h
  · simp [h]
  · simp [stepSlot_eq_none h]

/-! ### The end of a FILL entry (R113 to R116) -/

/-- No FILL entry is created by an ABORTING fill, at the end of the range, or with three in flight (R113). -/
theorem createFillEntries_eq_self {s : State}
    (h : ∀ f, s.fill = some f → f.aborting = true ∨ f.first + f.count ≤ f.cursor ∨ 3 ≤ f.inFlight) :
    s.createFillEntries = s := by
  have one : s.createFillEntry = s := by
    unfold State.createFillEntry
    split
    · rfl
    · next f e =>
      rw [if_neg]
      rcases h f e with k | k | k
      · simp [k]
      · simp [Nat.not_lt.2 k]
      · simp [Nat.not_lt.2 k]
  unfold State.createFillEntries
  rw [one, one, one]

end Sys2Proof.Machine
end

