-- ==== Sys2Proof/Laws/Conditions.lean ====
section
/-! SUPPORT. What the conditions computed from the state say, as propositions. -/

namespace Sys2Proof.Machine

/-! ### Banks -/

theorem mem_allBanks (b : Fin 16) : b ∈ allBanks := by simp [allBanks]

theorem allBanks_all (f : Fin 16 → Bool) : allBanks.all f = true ↔ ∀ b, f b = true := by
  rw [List.all_eq_true]
  exact ⟨fun h b => h b (mem_allBanks b), fun h b _ => h b⟩

theorem allClosed_iff (s : State) : s.allClosed = true ↔ ∀ b, (s.bank b).state = .closed := by
  unfold State.allClosed
  rw [allBanks_all]
  exact forall_congr' fun _ => decide_eq_true_iff

theorem noRowInUse_iff (s : State) :
    s.noRowInUse = true ↔ ∀ b, (s.bank b).state = .closed ∨ (s.bank b).state = .refreshing := by
  unfold State.noRowInUse
  rw [allBanks_all]
  exact forall_congr' fun _ => decide_eq_true_iff

theorem refreshClear_iff (s : State) :
    s.refreshClear = true ↔ ∀ b, (s.bank b).debt = 0 ∧ (s.bank b).state ≠ .refreshing := by
  unfold State.refreshClear
  rw [allBanks_all]
  exact forall_congr' fun _ => decide_eq_true_iff

theorem ranDown_iff (s : State) : s.ranDown = true ↔
    s.path.flight = none ∧ ∀ b, (s.bank b).state = .closed ∨ (s.bank b).state = .refreshing := by
  unfold State.ranDown
  rw [Bool.and_eq_true, noRowInUse_iff, Option.isNone_iff_eq_none, and_comm]

theorem calPending_iff (s : State) : s.calPending = true ↔ ∃ k, s.maint.cal = .pending k := by
  unfold State.calPending
  cases s.maint.cal <;> simp

/-! ### Queues and pins -/

theorem queueEmpty_iff (s : State) (b : Fin 16) : s.queueEmpty b = true ↔ ∀ x ∈ s.table, x.2.queuedOn b = false := by
  simp [State.queueEmpty]

theorem pinned_eq_false_iff (s : State) (b : Fin 16) :
    s.pinned b = false ↔ ∀ x ∈ s.table, x.2.state = .inUpdate → bankOf x.2.first ≠ b := by
  simp [State.pinned]

theorem idleCloseConditions_iff (s : State) (b : Fin 16) : s.idleCloseConditions b = true ↔
    (s.bank b).state = .opened ∧ s.runDown = false ∧ (∀ x ∈ s.table, x.2.queuedOn b = false) ∧
      ∀ x ∈ s.table, x.2.state = .inUpdate → bankOf x.2.first ≠ b := by
  unfold State.idleCloseConditions
  rw [← queueEmpty_iff, ← pinned_eq_false_iff]
  cases s.queueEmpty b <;> cases s.pinned b <;> cases s.runDown <;> simp

/-! ### Ages, ranges, sessions -/

theorem older_iff (x y : Entry) : x.older y = true ↔ x.age < y.age ∨ (x.age = y.age ∧ x.first < y.first) := by
  simp [Entry.older]

theorem rangesOverlap_iff (f1 c1 f2 c2 : Nat) :
    rangesOverlap f1 c1 f2 c2 = true ↔ ∃ b, f1 ≤ b ∧ b < f1 + c1 ∧ f2 ≤ b ∧ b < f2 + c2 := by
  unfold rangesOverlap
  rw [decide_eq_true_eq]
  constructor
  · intro h
    exact ⟨max f1 f2, by omega⟩
  · rintro ⟨b, h⟩
    omega

theorem sameSession_iff (x y : Owner) :
    sameSession x y = true ↔ ∃ p t u n o r, x = .port p t n o ∧ y = .port p u n r := by
  constructor
  · intro h
    cases x with
    | maintenance => cases h
    | port p t n o =>
      cases y with
      | maintenance => cases h
      | port q u m r =>
        have e : p = q ∧ n = m := of_decide_eq_true h
        obtain ⟨rfl, rfl⟩ := e
        exact ⟨_, _, _, _, _, _, rfl, rfl⟩
  · rintro ⟨p, t, u, n, o, r, rfl, rfl⟩
    exact decide_eq_true ⟨rfl, rfl⟩

/-! ### Sets of positions -/

theorem mem_positionsOf {α : Type} (f : α → Bool) (l : List α) (i : Nat) :
    i ∈ positionsOf f l ↔ ∃ a, l[i]? = some a ∧ f a = true := by
  unfold positionsOf
  simp only [List.mem_map, List.mem_filter, Prod.exists]
  constructor
  · rintro ⟨a, j, ⟨h1, h2⟩, rfl⟩
    exact ⟨a, List.mem_zipIdx_iff_getElem?.1 h1, h2⟩
  · rintro ⟨a, h1, h2⟩
    exact ⟨a, i, ⟨List.mem_zipIdx_iff_getElem?.2 h1, h2⟩, rfl⟩

/-- The positions in rising order. -/
theorem positionsOf_eq_filter {α : Type} (f : α → Bool) (l : List α) :
    positionsOf f l = (List.range l.length).filter fun i => (l[i]?.map f).getD false := by
  have key : ∀ (l : List α) (k : Nat), ((l.zipIdx k).filter fun x => f x.1).map (·.2) =
      ((List.range l.length).filter fun i => (l[i]?.map f).getD false).map (k + ·) := by
    intro l
    induction l with
    | nil => intro k; rfl
    | cons a t ih =>
      intro k
      have e : (List.range (a :: t).length) = 0 :: (List.range t.length).map Nat.succ := by
        rw [List.length_cons, List.range_succ_eq_map]
      have r : ((List.range t.length).map Nat.succ).filter (fun i => ((a :: t)[i]?.map f).getD false) =
          ((List.range t.length).filter fun i => (t[i]?.map f).getD false).map Nat.succ := by
        rw [List.filter_map]
        rfl
      rw [e, List.filter_cons, r, List.zipIdx_cons, List.filter_cons]
      have m : ∀ q : List Nat, (q.map Nat.succ).map (k + ·) = q.map (k + 1 + ·) := by
        intro q
        rw [List.map_map]
        exact List.map_congr_left fun i _ => by simp only [Function.comp]; omega
      by_cases h : f a = true
      · simp only [h, if_true, List.map_cons, ih, m, List.getElem?_cons_zero, Option.map_some, Option.getD_some, Nat.add_zero]
      · simp only [h, if_false, ih, m, List.getElem?_cons_zero, Option.map_some, Option.getD_some, Bool.false_eq_true]
  have := key l 0
  simpa [positionsOf] using this

/-! ### Blocks of a transfer -/

theorem correctedIn_eq (blocks : List ReadBlock) :
    correctedIn blocks = (blocks.filter fun b => decide (b.cls = .corrected)).length := rfl

/-- Classification by condition, with zero bytes for a POISONED block. -/
theorem readBlock_eq (s : State) (block : Nat) : s.readBlock block =
    match s.condition block with
    | .good => ⟨.ok, s.blockData block⟩
    | .correctable => ⟨.corrected, s.blockData block⟩
    | .uncorrectable => ⟨.poisoned, List.replicate 32 0#8⟩ := by
  unfold State.readBlock
  cases s.condition block <;> rfl

end Sys2Proof.Machine
end

