-- ==== Sys2Proof/Laws/Frames.lean ====
section
/-! SUPPORT. What the operations over a port's record leave as it was, field by field. -/

namespace Sys2Proof.Machine

theorem OnlyPort.now {p : Port} {s t : State} (h : OnlyPort p s t) : t.now = s.now := by
  obtain ⟨r, rfl⟩ := h
  exact now_setPort s p r
theorem OnlyPort.powerOns {p : Port} {s t : State} (h : OnlyPort p s t) : t.powerOns = s.powerOns := by
  obtain ⟨r, rfl⟩ := h
  exact powerOns_setPort s p r
theorem OnlyPort.rstHigh {p : Port} {s t : State} (h : OnlyPort p s t) : t.rstHigh = s.rstHigh := by
  obtain ⟨r, rfl⟩ := h
  exact rstHigh_setPort s p r
theorem OnlyPort.powerOnReset {p : Port} {s t : State} (h : OnlyPort p s t) : t.powerOnReset = s.powerOnReset := by
  obtain ⟨r, rfl⟩ := h
  exact powerOnReset_setPort s p r
theorem OnlyPort.runDown {p : Port} {s t : State} (h : OnlyPort p s t) : t.runDown = s.runDown := by
  obtain ⟨r, rfl⟩ := h
  exact runDown_setPort s p r
theorem OnlyPort.pending {p : Port} {s t : State} (h : OnlyPort p s t) : t.pending = s.pending := by
  obtain ⟨r, rfl⟩ := h
  exact pending_setPort s p r
theorem OnlyPort.contents {p : Port} {s t : State} (h : OnlyPort p s t) : t.contents = s.contents := by
  obtain ⟨r, rfl⟩ := h
  exact contents_setPort s p r
theorem OnlyPort.conditions {p : Port} {s t : State} (h : OnlyPort p s t) : t.conditions = s.conditions := by
  obtain ⟨r, rfl⟩ := h
  exact conditions_setPort s p r
theorem OnlyPort.banks {p : Port} {s t : State} (h : OnlyPort p s t) : t.banks = s.banks := by
  obtain ⟨r, rfl⟩ := h
  exact banks_setPort s p r
theorem OnlyPort.calRunDue {p : Port} {s t : State} (h : OnlyPort p s t) : t.calRunDue = s.calRunDue := by
  obtain ⟨r, rfl⟩ := h
  exact calRunDue_setPort s p r
theorem OnlyPort.path {p : Port} {s t : State} (h : OnlyPort p s t) : t.path = s.path := by
  obtain ⟨r, rfl⟩ := h
  exact path_setPort s p r
theorem OnlyPort.window {p : Port} {s t : State} (h : OnlyPort p s t) : t.window = s.window := by
  obtain ⟨r, rfl⟩ := h
  exact window_setPort s p r
theorem OnlyPort.spacing {p : Port} {s t : State} (h : OnlyPort p s t) : t.spacing = s.spacing := by
  obtain ⟨r, rfl⟩ := h
  exact spacing_setPort s p r
theorem OnlyPort.table {p : Port} {s t : State} (h : OnlyPort p s t) : t.table = s.table := by
  obtain ⟨r, rfl⟩ := h
  exact table_setPort s p r
theorem OnlyPort.ageCounter {p : Port} {s t : State} (h : OnlyPort p s t) : t.ageCounter = s.ageCounter := by
  obtain ⟨r, rfl⟩ := h
  exact ageCounter_setPort s p r
theorem OnlyPort.maint {p : Port} {s t : State} (h : OnlyPort p s t) : t.maint = s.maint := by
  obtain ⟨r, rfl⟩ := h
  exact maint_setPort s p r
theorem OnlyPort.scrub {p : Port} {s t : State} (h : OnlyPort p s t) : t.scrub = s.scrub := by
  obtain ⟨r, rfl⟩ := h
  exact scrub_setPort s p r
theorem OnlyPort.fill {p : Port} {s t : State} (h : OnlyPort p s t) : t.fill = s.fill := by
  obtain ⟨r, rfl⟩ := h
  exact fill_setPort s p r
theorem OnlyPort.errors {p : Port} {s t : State} (h : OnlyPort p s t) : t.errors = s.errors := by
  obtain ⟨r, rfl⟩ := h
  exact errors_setPort s p r
theorem OnlyPort.owner {p : Port} {s t : State} (h : OnlyPort p s t) : t.owner = s.owner := by
  obtain ⟨r, rfl⟩ := h
  exact owner_setPort s p r
theorem OnlyPort.regions {p : Port} {s t : State} (h : OnlyPort p s t) : t.regions = s.regions := by
  obtain ⟨r, rfl⟩ := h
  exact regions_setPort s p r
theorem OnlyPort.mgmt {p : Port} {s t : State} (h : OnlyPort p s t) : t.mgmt = s.mgmt := by
  obtain ⟨r, rfl⟩ := h
  exact mgmt_setPort s p r
theorem OnlyPort.store {p : Port} {s t : State} (h : OnlyPort p s t) : t.store = s.store := by
  obtain ⟨r, rfl⟩ := h
  exact store_setPort s p r
theorem OnlyPort.power {p : Port} {s t : State} (h : OnlyPort p s t) : t.power = s.power := by
  obtain ⟨r, rfl⟩ := h
  exact power_setPort s p r

/-! ### `State.raiseNotice` -/

@[simp] theorem now_raiseNotice (s : State) (p : Port) (n : Notice) : (s.raiseNotice p n).now = s.now := (onlyPort_raiseNotice s p n).now
@[simp] theorem powerOns_raiseNotice (s : State) (p : Port) (n : Notice) : (s.raiseNotice p n).powerOns = s.powerOns := (onlyPort_raiseNotice s p n).powerOns
@[simp] theorem rstHigh_raiseNotice (s : State) (p : Port) (n : Notice) : (s.raiseNotice p n).rstHigh = s.rstHigh := (onlyPort_raiseNotice s p n).rstHigh
@[simp] theorem powerOnReset_raiseNotice (s : State) (p : Port) (n : Notice) : (s.raiseNotice p n).powerOnReset = s.powerOnReset := (onlyPort_raiseNotice s p n).powerOnReset
@[simp] theorem runDown_raiseNotice (s : State) (p : Port) (n : Notice) : (s.raiseNotice p n).runDown = s.runDown := (onlyPort_raiseNotice s p n).runDown
@[simp] theorem pending_raiseNotice (s : State) (p : Port) (n : Notice) : (s.raiseNotice p n).pending = s.pending := (onlyPort_raiseNotice s p n).pending
@[simp] theorem contents_raiseNotice (s : State) (p : Port) (n : Notice) : (s.raiseNotice p n).contents = s.contents := (onlyPort_raiseNotice s p n).contents
@[simp] theorem conditions_raiseNotice (s : State) (p : Port) (n : Notice) : (s.raiseNotice p n).conditions = s.conditions := (onlyPort_raiseNotice s p n).conditions
@[simp] theorem banks_raiseNotice (s : State) (p : Port) (n : Notice) : (s.raiseNotice p n).banks = s.banks := (onlyPort_raiseNotice s p n).banks
@[simp] theorem calRunDue_raiseNotice (s : State) (p : Port) (n : Notice) : (s.raiseNotice p n).calRunDue = s.calRunDue := (onlyPort_raiseNotice s p n).calRunDue
@[simp] theorem path_raiseNotice (s : State) (p : Port) (n : Notice) : (s.raiseNotice p n).path = s.path := (onlyPort_raiseNotice s p n).path
@[simp] theorem window_raiseNotice (s : State) (p : Port) (n : Notice) : (s.raiseNotice p n).window = s.window := (onlyPort_raiseNotice s p n).window
@[simp] theorem spacing_raiseNotice (s : State) (p : Port) (n : Notice) : (s.raiseNotice p n).spacing = s.spacing := (onlyPort_raiseNotice s p n).spacing
@[simp] theorem table_raiseNotice (s : State) (p : Port) (n : Notice) : (s.raiseNotice p n).table = s.table := (onlyPort_raiseNotice s p n).table
@[simp] theorem ageCounter_raiseNotice (s : State) (p : Port) (n : Notice) : (s.raiseNotice p n).ageCounter = s.ageCounter := (onlyPort_raiseNotice s p n).ageCounter
@[simp] theorem maint_raiseNotice (s : State) (p : Port) (n : Notice) : (s.raiseNotice p n).maint = s.maint := (onlyPort_raiseNotice s p n).maint
@[simp] theorem scrub_raiseNotice (s : State) (p : Port) (n : Notice) : (s.raiseNotice p n).scrub = s.scrub := (onlyPort_raiseNotice s p n).scrub
@[simp] theorem fill_raiseNotice (s : State) (p : Port) (n : Notice) : (s.raiseNotice p n).fill = s.fill := (onlyPort_raiseNotice s p n).fill
@[simp] theorem errors_raiseNotice (s : State) (p : Port) (n : Notice) : (s.raiseNotice p n).errors = s.errors := (onlyPort_raiseNotice s p n).errors
@[simp] theorem owner_raiseNotice (s : State) (p : Port) (n : Notice) : (s.raiseNotice p n).owner = s.owner := (onlyPort_raiseNotice s p n).owner
@[simp] theorem regions_raiseNotice (s : State) (p : Port) (n : Notice) : (s.raiseNotice p n).regions = s.regions := (onlyPort_raiseNotice s p n).regions
@[simp] theorem mgmt_raiseNotice (s : State) (p : Port) (n : Notice) : (s.raiseNotice p n).mgmt = s.mgmt := (onlyPort_raiseNotice s p n).mgmt
@[simp] theorem store_raiseNotice (s : State) (p : Port) (n : Notice) : (s.raiseNotice p n).store = s.store := (onlyPort_raiseNotice s p n).store
@[simp] theorem power_raiseNotice (s : State) (p : Port) (n : Notice) : (s.raiseNotice p n).power = s.power := (onlyPort_raiseNotice s p n).power

/-! ### `State.setVote` -/

@[simp] theorem now_setVote (s : State) (p : Port) (v : Bool) : (s.setVote p v).now = s.now := (onlyPort_setVote s p v).now
@[simp] theorem powerOns_setVote (s : State) (p : Port) (v : Bool) : (s.setVote p v).powerOns = s.powerOns := (onlyPort_setVote s p v).powerOns
@[simp] theorem rstHigh_setVote (s : State) (p : Port) (v : Bool) : (s.setVote p v).rstHigh = s.rstHigh := (onlyPort_setVote s p v).rstHigh
@[simp] theorem powerOnReset_setVote (s : State) (p : Port) (v : Bool) : (s.setVote p v).powerOnReset = s.powerOnReset := (onlyPort_setVote s p v).powerOnReset
@[simp] theorem runDown_setVote (s : State) (p : Port) (v : Bool) : (s.setVote p v).runDown = s.runDown := (onlyPort_setVote s p v).runDown
@[simp] theorem pending_setVote (s : State) (p : Port) (v : Bool) : (s.setVote p v).pending = s.pending := (onlyPort_setVote s p v).pending
@[simp] theorem contents_setVote (s : State) (p : Port) (v : Bool) : (s.setVote p v).contents = s.contents := (onlyPort_setVote s p v).contents
@[simp] theorem conditions_setVote (s : State) (p : Port) (v : Bool) : (s.setVote p v).conditions = s.conditions := (onlyPort_setVote s p v).conditions
@[simp] theorem banks_setVote (s : State) (p : Port) (v : Bool) : (s.setVote p v).banks = s.banks := (onlyPort_setVote s p v).banks
@[simp] theorem calRunDue_setVote (s : State) (p : Port) (v : Bool) : (s.setVote p v).calRunDue = s.calRunDue := (onlyPort_setVote s p v).calRunDue
@[simp] theorem path_setVote (s : State) (p : Port) (v : Bool) : (s.setVote p v).path = s.path := (onlyPort_setVote s p v).path
@[simp] theorem window_setVote (s : State) (p : Port) (v : Bool) : (s.setVote p v).window = s.window := (onlyPort_setVote s p v).window
@[simp] theorem spacing_setVote (s : State) (p : Port) (v : Bool) : (s.setVote p v).spacing = s.spacing := (onlyPort_setVote s p v).spacing
@[simp] theorem table_setVote (s : State) (p : Port) (v : Bool) : (s.setVote p v).table = s.table := (onlyPort_setVote s p v).table
@[simp] theorem ageCounter_setVote (s : State) (p : Port) (v : Bool) : (s.setVote p v).ageCounter = s.ageCounter := (onlyPort_setVote s p v).ageCounter
@[simp] theorem maint_setVote (s : State) (p : Port) (v : Bool) : (s.setVote p v).maint = s.maint := (onlyPort_setVote s p v).maint
@[simp] theorem scrub_setVote (s : State) (p : Port) (v : Bool) : (s.setVote p v).scrub = s.scrub := (onlyPort_setVote s p v).scrub
@[simp] theorem fill_setVote (s : State) (p : Port) (v : Bool) : (s.setVote p v).fill = s.fill := (onlyPort_setVote s p v).fill
@[simp] theorem errors_setVote (s : State) (p : Port) (v : Bool) : (s.setVote p v).errors = s.errors := (onlyPort_setVote s p v).errors
@[simp] theorem owner_setVote (s : State) (p : Port) (v : Bool) : (s.setVote p v).owner = s.owner := (onlyPort_setVote s p v).owner
@[simp] theorem regions_setVote (s : State) (p : Port) (v : Bool) : (s.setVote p v).regions = s.regions := (onlyPort_setVote s p v).regions
@[simp] theorem mgmt_setVote (s : State) (p : Port) (v : Bool) : (s.setVote p v).mgmt = s.mgmt := (onlyPort_setVote s p v).mgmt
@[simp] theorem store_setVote (s : State) (p : Port) (v : Bool) : (s.setVote p v).store = s.store := (onlyPort_setVote s p v).store
@[simp] theorem power_setVote (s : State) (p : Port) (v : Bool) : (s.setVote p v).power = s.power := (onlyPort_setVote s p v).power

/-! ### `State.emit` -/

@[simp] theorem now_emit (s : State) (p : Port) (f : Frame) : (s.emit p f).now = s.now := (onlyPort_emit s p f).now
@[simp] theorem powerOns_emit (s : State) (p : Port) (f : Frame) : (s.emit p f).powerOns = s.powerOns := (onlyPort_emit s p f).powerOns
@[simp] theorem rstHigh_emit (s : State) (p : Port) (f : Frame) : (s.emit p f).rstHigh = s.rstHigh := (onlyPort_emit s p f).rstHigh
@[simp] theorem powerOnReset_emit (s : State) (p : Port) (f : Frame) : (s.emit p f).powerOnReset = s.powerOnReset := (onlyPort_emit s p f).powerOnReset
@[simp] theorem runDown_emit (s : State) (p : Port) (f : Frame) : (s.emit p f).runDown = s.runDown := (onlyPort_emit s p f).runDown
@[simp] theorem pending_emit (s : State) (p : Port) (f : Frame) : (s.emit p f).pending = s.pending := (onlyPort_emit s p f).pending
@[simp] theorem contents_emit (s : State) (p : Port) (f : Frame) : (s.emit p f).contents = s.contents := (onlyPort_emit s p f).contents
@[simp] theorem conditions_emit (s : State) (p : Port) (f : Frame) : (s.emit p f).conditions = s.conditions := (onlyPort_emit s p f).conditions
@[simp] theorem banks_emit (s : State) (p : Port) (f : Frame) : (s.emit p f).banks = s.banks := (onlyPort_emit s p f).banks
@[simp] theorem calRunDue_emit (s : State) (p : Port) (f : Frame) : (s.emit p f).calRunDue = s.calRunDue := (onlyPort_emit s p f).calRunDue
@[simp] theorem path_emit (s : State) (p : Port) (f : Frame) : (s.emit p f).path = s.path := (onlyPort_emit s p f).path
@[simp] theorem window_emit (s : State) (p : Port) (f : Frame) : (s.emit p f).window = s.window := (onlyPort_emit s p f).window
@[simp] theorem spacing_emit (s : State) (p : Port) (f : Frame) : (s.emit p f).spacing = s.spacing := (onlyPort_emit s p f).spacing
@[simp] theorem table_emit (s : State) (p : Port) (f : Frame) : (s.emit p f).table = s.table := (onlyPort_emit s p f).table
@[simp] theorem ageCounter_emit (s : State) (p : Port) (f : Frame) : (s.emit p f).ageCounter = s.ageCounter := (onlyPort_emit s p f).ageCounter
@[simp] theorem maint_emit (s : State) (p : Port) (f : Frame) : (s.emit p f).maint = s.maint := (onlyPort_emit s p f).maint
@[simp] theorem scrub_emit (s : State) (p : Port) (f : Frame) : (s.emit p f).scrub = s.scrub := (onlyPort_emit s p f).scrub
@[simp] theorem fill_emit (s : State) (p : Port) (f : Frame) : (s.emit p f).fill = s.fill := (onlyPort_emit s p f).fill
@[simp] theorem errors_emit (s : State) (p : Port) (f : Frame) : (s.emit p f).errors = s.errors := (onlyPort_emit s p f).errors
@[simp] theorem owner_emit (s : State) (p : Port) (f : Frame) : (s.emit p f).owner = s.owner := (onlyPort_emit s p f).owner
@[simp] theorem regions_emit (s : State) (p : Port) (f : Frame) : (s.emit p f).regions = s.regions := (onlyPort_emit s p f).regions
@[simp] theorem mgmt_emit (s : State) (p : Port) (f : Frame) : (s.emit p f).mgmt = s.mgmt := (onlyPort_emit s p f).mgmt
@[simp] theorem store_emit (s : State) (p : Port) (f : Frame) : (s.emit p f).store = s.store := (onlyPort_emit s p f).store
@[simp] theorem power_emit (s : State) (p : Port) (f : Frame) : (s.emit p f).power = s.power := (onlyPort_emit s p f).power

/-! ### `State.sendMessage` -/

@[simp] theorem now_sendMessage (s : State) (p : Port) (m : Message) : (s.sendMessage p m).now = s.now := (onlyPort_sendMessage s p m).now
@[simp] theorem powerOns_sendMessage (s : State) (p : Port) (m : Message) : (s.sendMessage p m).powerOns = s.powerOns := (onlyPort_sendMessage s p m).powerOns
@[simp] theorem rstHigh_sendMessage (s : State) (p : Port) (m : Message) : (s.sendMessage p m).rstHigh = s.rstHigh := (onlyPort_sendMessage s p m).rstHigh
@[simp] theorem powerOnReset_sendMessage (s : State) (p : Port) (m : Message) : (s.sendMessage p m).powerOnReset = s.powerOnReset := (onlyPort_sendMessage s p m).powerOnReset
@[simp] theorem runDown_sendMessage (s : State) (p : Port) (m : Message) : (s.sendMessage p m).runDown = s.runDown := (onlyPort_sendMessage s p m).runDown
@[simp] theorem pending_sendMessage (s : State) (p : Port) (m : Message) : (s.sendMessage p m).pending = s.pending := (onlyPort_sendMessage s p m).pending
@[simp] theorem contents_sendMessage (s : State) (p : Port) (m : Message) : (s.sendMessage p m).contents = s.contents := (onlyPort_sendMessage s p m).contents
@[simp] theorem conditions_sendMessage (s : State) (p : Port) (m : Message) : (s.sendMessage p m).conditions = s.conditions := (onlyPort_sendMessage s p m).conditions
@[simp] theorem banks_sendMessage (s : State) (p : Port) (m : Message) : (s.sendMessage p m).banks = s.banks := (onlyPort_sendMessage s p m).banks
@[simp] theorem calRunDue_sendMessage (s : State) (p : Port) (m : Message) : (s.sendMessage p m).calRunDue = s.calRunDue := (onlyPort_sendMessage s p m).calRunDue
@[simp] theorem path_sendMessage (s : State) (p : Port) (m : Message) : (s.sendMessage p m).path = s.path := (onlyPort_sendMessage s p m).path
@[simp] theorem window_sendMessage (s : State) (p : Port) (m : Message) : (s.sendMessage p m).window = s.window := (onlyPort_sendMessage s p m).window
@[simp] theorem spacing_sendMessage (s : State) (p : Port) (m : Message) : (s.sendMessage p m).spacing = s.spacing := (onlyPort_sendMessage s p m).spacing
@[simp] theorem table_sendMessage (s : State) (p : Port) (m : Message) : (s.sendMessage p m).table = s.table := (onlyPort_sendMessage s p m).table
@[simp] theorem ageCounter_sendMessage (s : State) (p : Port) (m : Message) : (s.sendMessage p m).ageCounter = s.ageCounter := (onlyPort_sendMessage s p m).ageCounter
@[simp] theorem maint_sendMessage (s : State) (p : Port) (m : Message) : (s.sendMessage p m).maint = s.maint := (onlyPort_sendMessage s p m).maint
@[simp] theorem scrub_sendMessage (s : State) (p : Port) (m : Message) : (s.sendMessage p m).scrub = s.scrub := (onlyPort_sendMessage s p m).scrub
@[simp] theorem fill_sendMessage (s : State) (p : Port) (m : Message) : (s.sendMessage p m).fill = s.fill := (onlyPort_sendMessage s p m).fill
@[simp] theorem errors_sendMessage (s : State) (p : Port) (m : Message) : (s.sendMessage p m).errors = s.errors := (onlyPort_sendMessage s p m).errors
@[simp] theorem owner_sendMessage (s : State) (p : Port) (m : Message) : (s.sendMessage p m).owner = s.owner := (onlyPort_sendMessage s p m).owner
@[simp] theorem regions_sendMessage (s : State) (p : Port) (m : Message) : (s.sendMessage p m).regions = s.regions := (onlyPort_sendMessage s p m).regions
@[simp] theorem mgmt_sendMessage (s : State) (p : Port) (m : Message) : (s.sendMessage p m).mgmt = s.mgmt := (onlyPort_sendMessage s p m).mgmt
@[simp] theorem store_sendMessage (s : State) (p : Port) (m : Message) : (s.sendMessage p m).store = s.store := (onlyPort_sendMessage s p m).store
@[simp] theorem power_sendMessage (s : State) (p : Port) (m : Message) : (s.sendMessage p m).power = s.power := (onlyPort_sendMessage s p m).power

/-! ### `State.sendAck` -/

@[simp] theorem now_sendAck (s : State) (p : Port) : (s.sendAck p).now = s.now := (onlyPort_sendAck s p).now
@[simp] theorem powerOns_sendAck (s : State) (p : Port) : (s.sendAck p).powerOns = s.powerOns := (onlyPort_sendAck s p).powerOns
@[simp] theorem rstHigh_sendAck (s : State) (p : Port) : (s.sendAck p).rstHigh = s.rstHigh := (onlyPort_sendAck s p).rstHigh
@[simp] theorem powerOnReset_sendAck (s : State) (p : Port) : (s.sendAck p).powerOnReset = s.powerOnReset := (onlyPort_sendAck s p).powerOnReset
@[simp] theorem runDown_sendAck (s : State) (p : Port) : (s.sendAck p).runDown = s.runDown := (onlyPort_sendAck s p).runDown
@[simp] theorem pending_sendAck (s : State) (p : Port) : (s.sendAck p).pending = s.pending := (onlyPort_sendAck s p).pending
@[simp] theorem contents_sendAck (s : State) (p : Port) : (s.sendAck p).contents = s.contents := (onlyPort_sendAck s p).contents
@[simp] theorem conditions_sendAck (s : State) (p : Port) : (s.sendAck p).conditions = s.conditions := (onlyPort_sendAck s p).conditions
@[simp] theorem banks_sendAck (s : State) (p : Port) : (s.sendAck p).banks = s.banks := (onlyPort_sendAck s p).banks
@[simp] theorem calRunDue_sendAck (s : State) (p : Port) : (s.sendAck p).calRunDue = s.calRunDue := (onlyPort_sendAck s p).calRunDue
@[simp] theorem path_sendAck (s : State) (p : Port) : (s.sendAck p).path = s.path := (onlyPort_sendAck s p).path
@[simp] theorem window_sendAck (s : State) (p : Port) : (s.sendAck p).window = s.window := (onlyPort_sendAck s p).window
@[simp] theorem spacing_sendAck (s : State) (p : Port) : (s.sendAck p).spacing = s.spacing := (onlyPort_sendAck s p).spacing
@[simp] theorem table_sendAck (s : State) (p : Port) : (s.sendAck p).table = s.table := (onlyPort_sendAck s p).table
@[simp] theorem ageCounter_sendAck (s : State) (p : Port) : (s.sendAck p).ageCounter = s.ageCounter := (onlyPort_sendAck s p).ageCounter
@[simp] theorem maint_sendAck (s : State) (p : Port) : (s.sendAck p).maint = s.maint := (onlyPort_sendAck s p).maint
@[simp] theorem scrub_sendAck (s : State) (p : Port) : (s.sendAck p).scrub = s.scrub := (onlyPort_sendAck s p).scrub
@[simp] theorem fill_sendAck (s : State) (p : Port) : (s.sendAck p).fill = s.fill := (onlyPort_sendAck s p).fill
@[simp] theorem errors_sendAck (s : State) (p : Port) : (s.sendAck p).errors = s.errors := (onlyPort_sendAck s p).errors
@[simp] theorem owner_sendAck (s : State) (p : Port) : (s.sendAck p).owner = s.owner := (onlyPort_sendAck s p).owner
@[simp] theorem regions_sendAck (s : State) (p : Port) : (s.sendAck p).regions = s.regions := (onlyPort_sendAck s p).regions
@[simp] theorem mgmt_sendAck (s : State) (p : Port) : (s.sendAck p).mgmt = s.mgmt := (onlyPort_sendAck s p).mgmt
@[simp] theorem store_sendAck (s : State) (p : Port) : (s.sendAck p).store = s.store := (onlyPort_sendAck s p).store
@[simp] theorem power_sendAck (s : State) (p : Port) : (s.sendAck p).power = s.power := (onlyPort_sendAck s p).power

/-! ### `State.returnCredit` -/

@[simp] theorem now_returnCredit (s : State) (p : Port) (cls : RequestClass) : (s.returnCredit p cls).now = s.now := (onlyPort_returnCredit s p cls).now
@[simp] theorem powerOns_returnCredit (s : State) (p : Port) (cls : RequestClass) : (s.returnCredit p cls).powerOns = s.powerOns := (onlyPort_returnCredit s p cls).powerOns
@[simp] theorem rstHigh_returnCredit (s : State) (p : Port) (cls : RequestClass) : (s.returnCredit p cls).rstHigh = s.rstHigh := (onlyPort_returnCredit s p cls).rstHigh
@[simp] theorem powerOnReset_returnCredit (s : State) (p : Port) (cls : RequestClass) : (s.returnCredit p cls).powerOnReset = s.powerOnReset := (onlyPort_returnCredit s p cls).powerOnReset
@[simp] theorem runDown_returnCredit (s : State) (p : Port) (cls : RequestClass) : (s.returnCredit p cls).runDown = s.runDown := (onlyPort_returnCredit s p cls).runDown
@[simp] theorem pending_returnCredit (s : State) (p : Port) (cls : RequestClass) : (s.returnCredit p cls).pending = s.pending := (onlyPort_returnCredit s p cls).pending
@[simp] theorem contents_returnCredit (s : State) (p : Port) (cls : RequestClass) : (s.returnCredit p cls).contents = s.contents := (onlyPort_returnCredit s p cls).contents
@[simp] theorem conditions_returnCredit (s : State) (p : Port) (cls : RequestClass) : (s.returnCredit p cls).conditions = s.conditions := (onlyPort_returnCredit s p cls).conditions
@[simp] theorem banks_returnCredit (s : State) (p : Port) (cls : RequestClass) : (s.returnCredit p cls).banks = s.banks := (onlyPort_returnCredit s p cls).banks
@[simp] theorem calRunDue_returnCredit (s : State) (p : Port) (cls : RequestClass) : (s.returnCredit p cls).calRunDue = s.calRunDue := (onlyPort_returnCredit s p cls).calRunDue
@[simp] theorem path_returnCredit (s : State) (p : Port) (cls : RequestClass) : (s.returnCredit p cls).path = s.path := (onlyPort_returnCredit s p cls).path
@[simp] theorem window_returnCredit (s : State) (p : Port) (cls : RequestClass) : (s.returnCredit p cls).window = s.window := (onlyPort_returnCredit s p cls).window
@[simp] theorem spacing_returnCredit (s : State) (p : Port) (cls : RequestClass) : (s.returnCredit p cls).spacing = s.spacing := (onlyPort_returnCredit s p cls).spacing
@[simp] theorem table_returnCredit (s : State) (p : Port) (cls : RequestClass) : (s.returnCredit p cls).table = s.table := (onlyPort_returnCredit s p cls).table
@[simp] theorem ageCounter_returnCredit (s : State) (p : Port) (cls : RequestClass) : (s.returnCredit p cls).ageCounter = s.ageCounter := (onlyPort_returnCredit s p cls).ageCounter
@[simp] theorem maint_returnCredit (s : State) (p : Port) (cls : RequestClass) : (s.returnCredit p cls).maint = s.maint := (onlyPort_returnCredit s p cls).maint
@[simp] theorem scrub_returnCredit (s : State) (p : Port) (cls : RequestClass) : (s.returnCredit p cls).scrub = s.scrub := (onlyPort_returnCredit s p cls).scrub
@[simp] theorem fill_returnCredit (s : State) (p : Port) (cls : RequestClass) : (s.returnCredit p cls).fill = s.fill := (onlyPort_returnCredit s p cls).fill
@[simp] theorem errors_returnCredit (s : State) (p : Port) (cls : RequestClass) : (s.returnCredit p cls).errors = s.errors := (onlyPort_returnCredit s p cls).errors
@[simp] theorem owner_returnCredit (s : State) (p : Port) (cls : RequestClass) : (s.returnCredit p cls).owner = s.owner := (onlyPort_returnCredit s p cls).owner
@[simp] theorem regions_returnCredit (s : State) (p : Port) (cls : RequestClass) : (s.returnCredit p cls).regions = s.regions := (onlyPort_returnCredit s p cls).regions
@[simp] theorem mgmt_returnCredit (s : State) (p : Port) (cls : RequestClass) : (s.returnCredit p cls).mgmt = s.mgmt := (onlyPort_returnCredit s p cls).mgmt
@[simp] theorem store_returnCredit (s : State) (p : Port) (cls : RequestClass) : (s.returnCredit p cls).store = s.store := (onlyPort_returnCredit s p cls).store
@[simp] theorem power_returnCredit (s : State) (p : Port) (cls : RequestClass) : (s.returnCredit p cls).power = s.power := (onlyPort_returnCredit s p cls).power

/-! ### `State.answerTrain` -/

@[simp] theorem now_answerTrain (s : State) (p : Port) (revision : Byte) : (s.answerTrain p revision).now = s.now := (onlyPort_answerTrain s p revision).now
@[simp] theorem powerOns_answerTrain (s : State) (p : Port) (revision : Byte) : (s.answerTrain p revision).powerOns = s.powerOns := (onlyPort_answerTrain s p revision).powerOns
@[simp] theorem rstHigh_answerTrain (s : State) (p : Port) (revision : Byte) : (s.answerTrain p revision).rstHigh = s.rstHigh := (onlyPort_answerTrain s p revision).rstHigh
@[simp] theorem powerOnReset_answerTrain (s : State) (p : Port) (revision : Byte) : (s.answerTrain p revision).powerOnReset = s.powerOnReset := (onlyPort_answerTrain s p revision).powerOnReset
@[simp] theorem runDown_answerTrain (s : State) (p : Port) (revision : Byte) : (s.answerTrain p revision).runDown = s.runDown := (onlyPort_answerTrain s p revision).runDown
@[simp] theorem pending_answerTrain (s : State) (p : Port) (revision : Byte) : (s.answerTrain p revision).pending = s.pending := (onlyPort_answerTrain s p revision).pending
@[simp] theorem contents_answerTrain (s : State) (p : Port) (revision : Byte) : (s.answerTrain p revision).contents = s.contents := (onlyPort_answerTrain s p revision).contents
@[simp] theorem conditions_answerTrain (s : State) (p : Port) (revision : Byte) : (s.answerTrain p revision).conditions = s.conditions := (onlyPort_answerTrain s p revision).conditions
@[simp] theorem banks_answerTrain (s : State) (p : Port) (revision : Byte) : (s.answerTrain p revision).banks = s.banks := (onlyPort_answerTrain s p revision).banks
@[simp] theorem calRunDue_answerTrain (s : State) (p : Port) (revision : Byte) : (s.answerTrain p revision).calRunDue = s.calRunDue := (onlyPort_answerTrain s p revision).calRunDue
@[simp] theorem path_answerTrain (s : State) (p : Port) (revision : Byte) : (s.answerTrain p revision).path = s.path := (onlyPort_answerTrain s p revision).path
@[simp] theorem window_answerTrain (s : State) (p : Port) (revision : Byte) : (s.answerTrain p revision).window = s.window := (onlyPort_answerTrain s p revision).window
@[simp] theorem spacing_answerTrain (s : State) (p : Port) (revision : Byte) : (s.answerTrain p revision).spacing = s.spacing := (onlyPort_answerTrain s p revision).spacing
@[simp] theorem table_answerTrain (s : State) (p : Port) (revision : Byte) : (s.answerTrain p revision).table = s.table := (onlyPort_answerTrain s p revision).table
@[simp] theorem ageCounter_answerTrain (s : State) (p : Port) (revision : Byte) : (s.answerTrain p revision).ageCounter = s.ageCounter := (onlyPort_answerTrain s p revision).ageCounter
@[simp] theorem maint_answerTrain (s : State) (p : Port) (revision : Byte) : (s.answerTrain p revision).maint = s.maint := (onlyPort_answerTrain s p revision).maint
@[simp] theorem scrub_answerTrain (s : State) (p : Port) (revision : Byte) : (s.answerTrain p revision).scrub = s.scrub := (onlyPort_answerTrain s p revision).scrub
@[simp] theorem fill_answerTrain (s : State) (p : Port) (revision : Byte) : (s.answerTrain p revision).fill = s.fill := (onlyPort_answerTrain s p revision).fill
@[simp] theorem errors_answerTrain (s : State) (p : Port) (revision : Byte) : (s.answerTrain p revision).errors = s.errors := (onlyPort_answerTrain s p revision).errors
@[simp] theorem owner_answerTrain (s : State) (p : Port) (revision : Byte) : (s.answerTrain p revision).owner = s.owner := (onlyPort_answerTrain s p revision).owner
@[simp] theorem regions_answerTrain (s : State) (p : Port) (revision : Byte) : (s.answerTrain p revision).regions = s.regions := (onlyPort_answerTrain s p revision).regions
@[simp] theorem mgmt_answerTrain (s : State) (p : Port) (revision : Byte) : (s.answerTrain p revision).mgmt = s.mgmt := (onlyPort_answerTrain s p revision).mgmt
@[simp] theorem store_answerTrain (s : State) (p : Port) (revision : Byte) : (s.answerTrain p revision).store = s.store := (onlyPort_answerTrain s p revision).store
@[simp] theorem power_answerTrain (s : State) (p : Port) (revision : Byte) : (s.answerTrain p revision).power = s.power := (onlyPort_answerTrain s p revision).power

end Sys2Proof.Machine
end

