-- ==== Sys2Proof/Laws/Memory.lean ====
section
/-! SUPPORT. The contents and conditions of the array: what a written block reads as, what is left as it was, and that every
operation over them keeps the canonical form. -/

namespace Sys2Proof.Machine

/-! ### `writeBytes` -/

theorem writeBytesFrom_find? (data : List Byte) (block addr : Nat) (l : List Nat) (hl : l.Nodup) (m : List Host.Cell) :
    Sparse.find? (l.foldl (fun m i => Sparse.insert m (32 * block + i) (data.getD i 0)) m) addr =
      if ∃ i ∈ l, addr = 32 * block + i then some (data.getD (addr - 32 * block) 0) else Sparse.find? m addr := by
  induction l generalizing m with
  | nil => simp
  | cons i t ih =>
    rw [List.nodup_cons] at hl
    rw [List.foldl_cons, ih hl.2]
    by_cases h : ∃ j ∈ t, addr = 32 * block + j
    · obtain ⟨j, hj, e⟩ := h
      rw [if_pos ⟨j, hj, e⟩, if_pos ⟨j, List.mem_cons_of_mem _ hj, e⟩]
    · rw [if_neg h]
      by_cases e : addr = 32 * block + i
      · subst e
        rw [if_pos ⟨i, List.mem_cons_self, rfl⟩]
        simp
      · rw [Sparse.find?_insert_of_ne _ _ _ _ e, if_neg]
        rintro ⟨j, hj, e'⟩
        rcases List.mem_cons.1 hj with r | r
        · exact e (r ▸ e')
        · exact h ⟨j, r, e'⟩

/-- A byte of a block written whole is the byte written; every other byte is as it was. -/
theorem writeBytes_find? (m : List Host.Cell) (block addr : Nat) (data : List Byte) :
    Sparse.find? (writeBytes m block data) addr =
      if addr / 32 = block then some (data.getD (addr % 32) 0) else Sparse.find? m addr := by
  unfold writeBytes
  rw [writeBytesFrom_find? data block addr _ List.nodup_range]
  by_cases h : addr / 32 = block
  · have e : addr - 32 * block = addr % 32 := by omega
    rw [if_pos h, if_pos ⟨addr % 32, by simp; omega, by omega⟩, e]
  · rw [if_neg h, if_neg]
    rintro ⟨i, hi, e⟩
    rw [List.mem_range] at hi
    omega

theorem writeBytes_keeps (m : List Host.Cell) (block : Nat) (data : List Byte) (w : Sparse.Wf m)
    (b : ∀ x ∈ m, x.1 < 32 * capacity) (h : block < capacity) :
    Sparse.Wf (writeBytes m block data) ∧ ∀ x ∈ writeBytes m block data, x.1 < 32 * capacity := by
  unfold writeBytes
  have : ∀ l : List Nat, (∀ i ∈ l, i < 32) → ∀ m : List Host.Cell, Sparse.Wf m → (∀ x ∈ m, x.1 < 32 * capacity) →
      Sparse.Wf (l.foldl (fun m i => Sparse.insert m (32 * block + i) (data.getD i 0)) m) ∧
        ∀ x ∈ l.foldl (fun m i => Sparse.insert m (32 * block + i) (data.getD i 0)) m, x.1 < 32 * capacity := by
    intro l
    induction l with
    | nil => intro _ m w b; exact ⟨w, b⟩
    | cons i t ih =>
      intro hl m w b
      refine ih (fun j hj => hl j (List.mem_cons_of_mem _ hj)) _ (Sparse.wf_insert w _ _) fun x hx => ?_
      have := hl i List.mem_cons_self
      rcases Sparse.mem_insert hx with e | hx
      · subst e; simp only; omega
      · exact b x hx
  exact this _ (fun i hi => List.mem_range.1 hi) m w b

@[simp] theorem contents_writeBlock (s : State) (block : Nat) (data : List Byte) :
    (s.writeBlock block data).contents = writeBytes s.contents block data := by simp only [State.writeBlock]

@[simp] theorem conditions_writeBlock (s : State) (block : Nat) (data : List Byte) :
    (s.writeBlock block data).conditions = Sparse.insert s.conditions block .good := by simp only [State.writeBlock]

/-! ### Reading after writing -/

/-- A byte of the block written is the byte written; every other byte reads as before. -/
theorem byteAt_writeBlock (s : State) (block addr : Nat) (data : List Byte) :
    (s.writeBlock block data).byteAt addr = if addr / 32 = block then data.getD (addr % 32) 0 else s.byteAt addr := by
  unfold State.byteAt State.writeBlock
  simp only [writeBytes_find?]
  split <;> rfl

/-- The block written is GOOD; every other condition is as before. -/
theorem condition_writeBlock (s : State) (block b : Nat) (data : List Byte) :
    (s.writeBlock block data).condition b = if b = block then .good else s.condition b := by
  unfold State.condition State.writeBlock
  by_cases h : b = block
  · subst h; simp
  · simp [h, Sparse.find?_insert_of_ne _ _ _ _ h]

/-- Setting a condition leaves every byte. -/
@[simp] theorem byteAt_setCondition (s : State) (block addr : Nat) (c : Condition) :
    (s.setCondition block c).byteAt addr = s.byteAt addr := rfl

theorem condition_setCondition (s : State) (block b : Nat) (c : Condition) :
    (s.setCondition block c).condition b = if b = block then c else s.condition b := by
  unfold State.condition State.setCondition
  by_cases h : b = block
  · subst h; simp
  · simp [h, Sparse.find?_insert_of_ne _ _ _ _ h]

/-! ### The canonical form -/

theorem memoryWf_setCondition (s : State) (w : s.memoryWf) (block : Nat) (c : Condition) (h : block < capacity) :
    (s.setCondition block c).memoryWf := by
  obtain ⟨w1, w2, w3, w4⟩ := w
  refine ⟨w1, w2, Sparse.wf_insert w3 _ _, fun x hx => ?_⟩
  rcases Sparse.mem_insert hx with e | hx
  · subst e; exact h
  · exact w4 x hx

theorem memoryWf_writeBlock (s : State) (w : s.memoryWf) (block : Nat) (data : List Byte) (h : block < capacity) :
    (s.writeBlock block data).memoryWf := by
  obtain ⟨w1, w2, w3, w4⟩ := w
  obtain ⟨k1, k2⟩ := writeBytes_keeps s.contents block data w1 w2 h
  unfold State.memoryWf
  rw [contents_writeBlock, conditions_writeBlock]
  refine ⟨k1, k2, Sparse.wf_insert w3 _ _, fun x hx => ?_⟩
  rcases Sparse.mem_insert hx with e | hx
  · subst e; exact h
  · exact w4 x hx

theorem memoryWf_writeBlocks (s : State) (w : s.memoryWf) (writes : List (Nat × List Byte))
    (h : ∀ x ∈ writes, x.1 < capacity) : (s.writeBlocks writes).memoryWf := by
  unfold State.writeBlocks
  induction writes generalizing s with
  | nil => exact w
  | cons x t ih =>
    rw [List.foldl_cons]
    exact ih _ (memoryWf_writeBlock s w x.1 x.2 (h x List.mem_cons_self)) fun y hy => h y (List.mem_cons_of_mem _ hy)

theorem memoryWf_reset : State.reset.memoryWf := by
  refine ⟨?_, ?_, ?_, ?_⟩ <;> simp [State.reset]

end Sys2Proof.Machine
end

