-- ==== Sys2Proof/Laws/PerInstr.lean ====
section
/-! SUPPORT. A statement about every command as syntax, constructor by constructor: the length of the frame it is sent as. -/

namespace Sys2Proof.Laws.FrameLength

/-- The frame a well-formed command is sent as, if it is one, is from 12 to 312 bytes long (R134). -/
def Statement (i : Instr) : Prop :=
  i.wellFormed = true → ∀ bytes, encodeFrame i = some bytes → 12 ≤ bytes.length ∧ bytes.length ≤ 312

theorem frameBytes_length (kind seq ackSeq : Byte) (m g : Nat) (v : Bool) (body : List Byte) :
    (frameBytes kind seq ackSeq m g v body).length = 12 + body.length := by
  simp [frameBytes, frameHeader, leBytes]
  omega

/-- A command that is no frame. -/
theorem of_none {i : Instr} (h : encodeFrame i = none) : Statement i := fun _ _ e => by rw [h] at e; cases e

/-- A command that is a frame with a body of no more than 300 bytes. -/
theorem of_frame {i : Instr} {kind seq ackSeq : Byte} {m g : Nat} {v : Bool} {body : List Byte}
    (h : encodeFrame i = some (frameBytes kind seq ackSeq m g v body)) (hb : i.wellFormed = true → body.length ≤ 300) :
    Statement i := fun w bytes e => by
  rw [h] at e
  cases e
  have := hb w
  rw [frameBytes_length]
  omega

theorem powerOn (rstHigh : Bool) : Statement (.powerOn rstHigh) := of_none rfl
theorem powerOnResetEnd (ownerSelHigh : Bool) : Statement (.powerOnResetEnd ownerSelHigh) := of_none rfl
theorem pinResetAssert : Statement .pinResetAssert := of_none rfl
theorem resetRelease (ownerSelHigh : Bool) : Statement (.resetRelease ownerSelHigh) := of_none rfl
theorem cellFault (block : BitVec 25) : Statement (.cellFault block) := of_none rfl
theorem temperatureReading (celsius : Int) : Statement (.temperatureReading celsius) := of_none rfl
theorem startUpReading (celsius : Int) : Statement (.startUpReading celsius) := of_none rfl
theorem msg (port : Port) (seq ackSeq : Byte) (ackValid : Bool) (body : List Byte) :
    Statement (.msg port seq ackSeq ackValid body) := of_frame rfl (fun w => by simpa [Instr.wellFormed, bodyFits] using w)
theorem ack (port : Port) (seq ackSeq : Byte) (ackValid : Bool) :
    Statement (.ack port seq ackSeq ackValid) := of_frame rfl (fun _ => by simp)
theorem replayReq (port : Port) (number : Byte) : Statement (.replayReq port number) := of_frame rfl (fun _ => by simp)
theorem train (port : Port) (revision : Byte) : Statement (.train port revision) := of_frame rfl (fun _ => by simp)
theorem linkDownFrame (port : Port) (reason : Byte) :
    Statement (.linkDownFrame port reason) := of_frame rfl (fun _ => by simp)
theorem badFrame (port : Port) : Statement (.badFrame port) := of_none rfl
theorem replayRequestTimerExpiry (port : Port) : Statement (.replayRequestTimerExpiry port) := of_none rfl
theorem acknowledgementTimerExpiry (port : Port) : Statement (.acknowledgementTimerExpiry port) := of_none rfl
theorem replayTimerExpiry (port : Port) : Statement (.replayTimerExpiry port) := of_none rfl
theorem outgoingArbiterTake (port : Port) : Statement (.outgoingArbiterTake port) := of_none rfl
theorem frameResend (port : Port) : Statement (.frameResend port) := of_none rfl
theorem openingGrant : Statement .openingGrant := of_none rfl
theorem openDelayComplete (bank : Fin 16) : Statement (.openDelayComplete bank) := of_none rfl
theorem minimumOpenComplete (bank : Fin 16) : Statement (.minimumOpenComplete bank) := of_none rfl
theorem readToCloseComplete (bank : Fin 16) : Statement (.readToCloseComplete bank) := of_none rfl
theorem writeRecoveryComplete (bank : Fin 16) : Statement (.writeRecoveryComplete bank) := of_none rfl
theorem turnaroundComplete : Statement .turnaroundComplete := of_none rfl
theorem closeBegin (bank : Fin 16) : Statement (.closeBegin bank) := of_none rfl
theorem closeComplete (bank : Fin 16) : Statement (.closeComplete bank) := of_none rfl
theorem refreshComplete (bank : Fin 16) : Statement (.refreshComplete bank) := of_none rfl
theorem firstAccessGrant : Statement .firstAccessGrant := of_none rfl
theorem writeBackGrant : Statement .writeBackGrant := of_none rfl
theorem readTransferEnd : Statement .readTransferEnd := of_none rfl
theorem writeTransferEnd : Statement .writeTransferEnd := of_none rfl
theorem windowSlotExpiry : Statement .windowSlotExpiry := of_none rfl
theorem spacingComplete : Statement .spacingComplete := of_none rfl
theorem idleCloseExpiry (bank : Fin 16) : Statement (.idleCloseExpiry bank) := of_none rfl
theorem intervalExpiry (bank : Fin 16) : Statement (.intervalExpiry bank) := of_none rfl
theorem calibrationTimerExpiry : Statement .calibrationTimerExpiry := of_none rfl
theorem calibrationRunBegin : Statement .calibrationRunBegin := of_none rfl
theorem calibrationRunComplete : Statement .calibrationRunComplete := of_none rfl
theorem stepTimerExpiry : Statement .stepTimerExpiry := of_none rfl
theorem napIdleTimerExpiry : Statement .napIdleTimerExpiry := of_none rfl
theorem napEntry : Statement .napEntry := of_none rfl
theorem napExitDelayComplete : Statement .napExitDelayComplete := of_none rfl
theorem timeBaseTick : Statement .timeBaseTick := of_none rfl
theorem startupEnd : Statement .startupEnd := of_none rfl
theorem enteringBegin : Statement .enteringBegin := of_none rfl
theorem retainEntry : Statement .retainEntry := of_none rfl
theorem wakingEnd : Statement .wakingEnd := of_none rfl
theorem restartTakesEffect : Statement .restartTakesEffect := of_none rfl
theorem configGet (port : Port) (tag : Byte) (key : BitVec 32) : Statement (.configGet port tag key) := of_none rfl
theorem configSet (port : Port) (tag : Byte) (key value : BitVec 32) :
    Statement (.configSet port tag key value) := of_none rfl
theorem status (port : Port) (tag : Byte) (clear : Bool) : Statement (.status port tag clear) := of_none rfl
theorem regionGet (port : Port) (tag slot : Byte) : Statement (.regionGet port tag slot) := of_none rfl
theorem regionSet (port : Port) (tag slot : Byte) (first count : BitVec 32) (enable rightsA rightsB : Byte) :
    Statement (.regionSet port tag slot first count enable rightsA rightsB) := of_none rfl
theorem errorFetch (port : Port) (tag : Byte) : Statement (.errorFetch port tag) := of_none rfl
theorem errorClear (port : Port) (tag : Byte) (number : BitVec 32) :
    Statement (.errorClear port tag number) := of_none rfl
theorem fillStart (port : Port) (tag : Byte) (first count : BitVec 32) (pattern : BitVec 64) :
    Statement (.fillStart port tag first count pattern) := of_none rfl
theorem fillAbort (port : Port) (tag : Byte) : Statement (.fillAbort port tag) := of_none rfl
theorem retainVote (port : Port) (tag : Byte) : Statement (.retainVote port tag) := of_none rfl
theorem retainWithdraw (port : Port) (tag : Byte) : Statement (.retainWithdraw port tag) := of_none rfl
theorem calibrate (port : Port) (tag : Byte) : Statement (.calibrate port tag) := of_none rfl
theorem restart (port : Port) (tag : Byte) : Statement (.restart port tag) := of_none rfl

end Sys2Proof.Laws.FrameLength
end

