-- ==== Sys2Proof/Laws/Reset.lean ====
section
/-! SUPPORT. The parts of a reset: the interval timers, the run-down, the records each of them leaves. -/

namespace Sys2Proof.Machine

theorem stagger_eq (hot : Bool) (b : Nat) : stagger hot b = (b + 1) * (if hot then 62500 else 125000) := by
  cases hot <;> rfl

theorem bank_startIntervals (s : State) (b : Fin 16) :
    s.startIntervals.bank b = { s.bank b with intervalDue := some (s.now + stagger s.maint.hot b.val) } := by
  unfold State.startIntervals
  rw [bank_mapBanks]

theorem startIntervals_eq (s : State) : s.startIntervals = { s with banks := s.startIntervals.banks } := by
  unfold State.startIntervals State.mapBanks
  rfl

theorem startIntervalsIfStopped_eq (s : State) :
    s.startIntervalsIfStopped = { s with banks := s.startIntervalsIfStopped.banks } := by
  unfold State.startIntervalsIfStopped
  split
  · exact startIntervals_eq s
  · rfl

theorem bank_startIntervalsIfStopped (s : State) (b : Fin 16) : s.startIntervalsIfStopped.bank b =
    { s.bank b with
      intervalDue := if ∀ c, (s.bank c).intervalDue = none
        then some (s.now + (b.val + 1) * (if s.maint.hot then 62500 else 125000))
        else (s.bank b).intervalDue } := by
  have e : (allBanks.all fun b => (s.bank b).intervalDue.isNone) = true ↔ ∀ c, (s.bank c).intervalDue = none := by
    rw [allBanks_all]
    exact forall_congr' fun _ => Option.isNone_iff_eq_none
  unfold State.startIntervalsIfStopped
  by_cases h : ∀ c, (s.bank c).intervalDue = none
  · rw [if_pos (e.2 h), if_pos h, bank_startIntervals, stagger_eq]
  · rw [if_neg (mt e.1 h), if_neg h]

theorem settleRunDown_eq (s : State) :
    s.settleRunDown = { s with runDown := s.settleRunDown.runDown, path := s.settleRunDown.path } := by
  unfold State.settleRunDown
  split <;> rfl

theorem maint_resetLow_eq (s : State) : s.maint.resetLow =
    { s.maint with
      cal := (if s.calPending then .idle else s.maint.cal)
      followOn := none
      calTimerDue := none
      readingAsked := false } := by
  unfold Maintenance.resetLow State.calPending
  rcases h : s.maint.cal with _ | _ | _ <;> simp

end Sys2Proof.Machine
end

