-- ==== Sys2Proof/Tests/Slice0.lean ====
section
/-! SUPPORT. Small tests: well-formedness, frames, worked values of the manual, and for each statement with hypotheses a
concrete state and operands that meet them, clause by clause. -/

namespace Sys2Proof.Tests

open Sys2Proof Sys2Proof.Machine

set_option Elab.async false

/-! ### Commands and frames -/

theorem test_wf_readings : Instr.wellFormed (.temperatureReading (-41)) = false ∧ Instr.wellFormed (.temperatureReading 126) = false ∧
    Instr.wellFormed (.temperatureReading (-40)) = true ∧ Instr.wellFormed (.temperatureReading 125) = true := by decide

theorem test_wf_startUpReadings : Instr.wellFormed (.startUpReading (-41)) = false ∧
    Instr.wellFormed (.startUpReading 126) = false ∧ Instr.wellFormed (.startUpReading 125) = true := by decide

theorem test_wf_longMessage : bodyFits (List.replicate 301 0) = false ∧ bodyFits (List.replicate 300 0) = true := by
  decide +kernel

theorem test_wf_msg : Instr.wellFormed (.msg .a 0 0 false (List.replicate 301 0)) = false := by decide +kernel

theorem test_noTableWord : decodeTableWord 32 5 = none ∧ State.withFetchWord State.reset 32 5 = State.reset := ⟨rfl, rfl⟩

/-- The check value of CRC-32: the ASCII digits 1 to 9 give CBF43926h. -/
theorem test_crc : crc32 [0x31, 0x32, 0x33, 0x34, 0x35, 0x36, 0x37, 0x38, 0x39] = 0xCBF43926#32 := by decide +kernel

/-- A TRAIN of revision 1, header and body as Table 8-2 lays them out, and the same with a bit of the body changed. -/
theorem test_trainFrame :
    decodeFrame .a ([4, 0, 0, 0, 0, 0, 1, 0, 1] ++ leBytes 4 (crc32 [4, 0, 0, 0, 0, 0, 1, 0, 1]).toNat) = .train .a 1 ∧
    decodeFrame .a ([4, 0, 0, 0, 0, 0, 1, 0, 3] ++ leBytes 4 (crc32 [4, 0, 0, 0, 0, 0, 1, 0, 1]).toNat) = .badFrame .a := by
  decide +kernel

/-- A READ of 8 blocks from block 7 with tag 9: the 12 bytes of Table 9-1 in a MSG frame. -/
theorem test_readFrame :
    let body : List Byte := [1, 9, 8, 0, 7, 0, 0, 0, 0, 0, 0, 0]
    decodeFrame .b ([1, 5, 3, 0, 0, 1, 12, 0] ++ body ++ leBytes 4 (crc32 ([1, 5, 3, 0, 0, 1, 12, 0] ++ body)).toNat) =
        .msg .b 5 3 true body ∧ parseBody body = .memory (.read 7 8) := by
  decide +kernel

/-- A kind the processor does not send, and an ACK with a body, are bad frames (R134). -/
theorem test_badKinds :
    decodeFrame .a ([5, 0, 0, 0, 0, 0, 0, 0] ++ leBytes 4 (crc32 [5, 0, 0, 0, 0, 0, 0, 0]).toNat) = .badFrame .a ∧
    decodeFrame .a ([2, 0, 0, 0, 0, 0, 1, 0, 0] ++ leBytes 4 (crc32 [2, 0, 0, 0, 0, 0, 1, 0, 0]).toNat) = .badFrame .a := by
  decide +kernel

/-- Table 1-2. -/
theorem test_mapping : (rowOf 1234567, (bankOf 1234567).val, columnOf 1234567) = (1205, 10, 7) ∧ granuleOf 1234567 = 602 := by
  decide

/-- Section 4.9: the three ATOMICs, the second a COMPARE-SWAP that fails on a block classified OK and stores nothing. -/
theorem test_atomics :
    atomicNew .fetchAdd 18446744073709551610 10 0 = 4 ∧ atomicNew .compareSwap 4 5 900 = 4 ∧
    atomicStoresNothing .compareSwap 4 5 .ok = true ∧ atomicNew .compareSwap 4 4 900 = 900 ∧
    atomicStoresNothing .compareSwap 4 5 .corrected = false := by decide +kernel

/-- Table 5-5: the HOT flag over the readings 86, 84, 81, 80, 84, 92, 88, and the distances that trigger. -/
theorem test_hot : [(86 : Int), 84, 81, 80, 84, 92, 88].foldl (fun (h : Bool × List Bool) r =>
      (hotAfter h.1 r, h.2 ++ [hotAfter h.1 r])) (false, []) = (true, [true, true, true, false, false, true, true]) ∧
    farFrom 83 92 = true ∧ farFrom 83 86 = false ∧ farFrom 83 90 = false ∧ farFrom 83 75 = true := by decide +kernel

/-- Section 1.1: row-containment at column 60. -/
theorem test_rowContained : rowContained 1234620 4 = true ∧ rowContained 1234620 5 = false := by decide

/-! ### States to start from -/

/-- The next state an outcome answers, if it answers one. -/
def nextOf (o : Host.Outcome State Fault Refusal) : Option State :=
  match o with
  | .next t => some t
  | _ => none

/-- An ACTIVE link with nothing on it. -/
def link0 : Link := { Link.cleared with state := .active, memOut := 48, mgmtOut := 4 }

/-- The part in ACTIVE, both links ACTIVE, everything else as at power-on. -/
def up : State := { State.reset with
  powerOnReset := false
  power := { Power.powerOn with state := .active }
  portA := { PortRec.powerOn with link := link0 }
  portB := { PortRec.powerOn with link := link0 } }

/-- `up` at another power state. -/
def upIn (st : PowerState) : State := { up with power := { up.power with state := st } }

/-- `up` with another link record on Port A. -/
def upLink (l : Link) : State := up.setLink .a l

/-- `up` with another bank 1. -/
def upBank (r : Bank) : State := up.setBank 1 r

/-- An entry of Port A, tag 1, in session 0. -/
def entryA (kind : EntryKind) (first count age : Nat) (st : EntryState) : Entry :=
  ⟨.port .a 1 0 false, kind, first, count, [], age, st, Holds.empty, [], [], none, none⟩

/-- `up` with a table. -/
def upTable (l : List (Nat × Entry)) : State := { up with table := l, ageCounter := 10 }

/-- Bank 1 OPEN on row 0, its minimum open time complete. -/
def openBank : Bank := { Bank.powerOn with state := .opened, openRow := some 0, minOpenDone := true }

/-- Two READs of the same blocks in IN-ACCESS and a BARRIER held behind them. -/
def crowd : State := upTable
  [(0, entryA .read 64 8 0 .inAccess), (1, entryA .read 64 8 1 .inAccess),
   (2, { entryA .barrier 0 0 2 .held with holds := ⟨false, true, false⟩ })]

theorem holdsRespected_crowd : crowd.holdsRespected := by
  intro x hx
  have h : x = (0, entryA .read 64 8 0 .inAccess) ∨ x = (1, entryA .read 64 8 1 .inAccess) ∨
      x = (2, { entryA .barrier 0 0 2 .held with holds := ⟨false, true, false⟩ }) := by
    simpa [crowd, upTable] using hx
  rcases h with rfl | rfl | rfl <;> decide +kernel

/-- With no DONE entry in the table and empty reply lists, the lists are sound. -/
theorem repliesSound_of_none {s : State} (h : ∀ x ∈ s.table, x.2.state ≠ .done) (ha : s.portA.replies = [])
    (hb : s.portB.replies = []) : s.repliesSound := by
  intro p
  have e : (s.port p).replies = [] := by cases p <;> assumption
  rw [e]
  refine ⟨List.nodup_nil, fun k => ⟨fun m => (nomatch m), ?_⟩⟩
  rintro ⟨x, _, _, hx, hd, _⟩
  exact absurd hd (h _ (Sparse.mem_of_find? hx))

theorem recordsPresent_crowd : crowd.recordsPresent := by
  unfold State.recordsPresent Entry.fieldsPresent
  decide +kernel

theorem tableSound_crowd : crowd.tableSound :=
  ⟨by decide +kernel, ⟨by decide +kernel, by decide +kernel, fun _ h => nomatch h⟩,
    repliesSound_of_none (by decide +kernel) rfl rfl, fun _ _ h => (nomatch h), holdsRespected_crowd, recordsPresent_crowd⟩

theorem tableSound_up : State.tableSound up :=
  ⟨List.Pairwise.nil, ⟨fun _ h => (nomatch h), List.Pairwise.nil, fun _ h => nomatch h⟩,
    repliesSound_of_none (fun _ h => nomatch h) rfl rfl, fun _ _ h => (nomatch h), fun _ h => (nomatch h), fun _ h => nomatch h⟩

theorem accountsSound_up : State.accountsSound up := by
  refine ⟨by decide +kernel, ?_, ?_, fun p => ?_, fun p _ => ?_⟩
  · exact fun x hx => nomatch hx
  · exact fun f h => nomatch h
  · cases p <;> decide +kernel
  · cases p <;> decide +kernel

/-- A table with a DONE entry in its port's reply list and one in IN-UPDATE, its write-back in flight. -/
def midway : State :=
  { upTable [(0, { entryA .read 64 8 0 .done with status := some .ok }),
      (1, { entryA .read 128 8 1 .inUpdate with writeBack := [3] })] with
    portA := { up.portA with replies := [0] }
    path := ⟨some ⟨some 1, 2, .write, 128, 8, [(131, List.replicate 32 0)], 1024⟩, some .read, some 0⟩ }

theorem tableSound_midway : midway.tableSound := by
  refine ⟨by decide +kernel, ⟨by decide +kernel, by decide +kernel, fun _ h => nomatch h⟩, fun p => ?_, fun f k h1 h2 => ?_,
    fun x hx => ?_, by unfold State.recordsPresent Entry.fieldsPresent; decide +kernel⟩
  · have mem : ∀ k e, midway.entry k = some e → (k, e) = (0, { entryA .read 64 8 0 .done with status := some .ok }) ∨
        (k, e) = (1, { entryA .read 128 8 1 .inUpdate with writeBack := [3] }) := by
      intro k e h
      simpa [midway, upTable] using Sparse.mem_of_find? h
    refine ⟨by cases p <;> decide +kernel, fun k => ⟨fun hk => ?_, ?_⟩⟩
    · cases p with
      | a =>
        have e : k = 0 := by simpa [midway, State.port] using hk
        subst e
        exact ⟨_, 1, 0, rfl, rfl, rfl⟩
      | b => exact absurd hk (by simp [midway, upTable, up, State.port, PortRec.powerOn])
    · rintro ⟨e, tag, session, h, hd, ho⟩
      rcases mem k e h with h | h <;> injection h with h1 h2 <;> subst h1 h2
      · cases ho
        exact List.mem_singleton.2 rfl
      · cases hd
  · cases h1
    cases h2
    exact ⟨_, rfl, Or.inr rfl⟩
  · have h : x = (0, { entryA .read 64 8 0 .done with status := some .ok }) ∨
        x = (1, { entryA .read 128 8 1 .inUpdate with writeBack := [3] }) := by simpa [midway, upTable] using hx
    rcases h with rfl | rfl <;> decide +kernel

/-- A part with a window of 5 openings, 16 error records and a full link record. -/
def brim : State := { upLink { link0 with control := [okReply 1 27 0 0 []], unacked := 16, retry := 4, sentCount := 128 } with
  window := [0, 2560, 5120, 7680, 10240]
  spacing := some 10240
  now := 10240
  maint := { Maintenance.powerOn with missed := 65535 }
  errors := ⟨[⟨65535, 0, .scrub, 0, 65535, false⟩], 0, 65535⟩
  pending := [.timeBaseTick] }

/-! ### Witnesses: the machine and the invariants -/

theorem test_witness_StepRunsFrontCommand : up.pending = [] := rfl

theorem test_witness_BalancedCreditsNeverStop : State.accountsSound up ∧ ∃ t, exec (.msg .a 0 0 false []) up = .next t :=
  ⟨accountsSound_up, _, rfl⟩

theorem test_witness_StepsKeepTheTableSound : crowd.tableSound ∧ midway.tableSound ∧ ∃ t, step crowd = .next t :=
  ⟨tableSound_crowd, tableSound_midway, _, rfl⟩

theorem test_witness_OverlappingAccessesExclude : crowd.tableSound ∧
    (0, entryA .read 64 8 0 .inAccess) ∈ crowd.table ∧ (1, entryA .read 64 8 1 .inAccess) ∈ crowd.table ∧
    (entryA .read 64 8 0 .inAccess).overlaps (entryA .read 64 8 1 .inAccess) = true ∧
    (2, { entryA .barrier 0 0 2 .held with holds := ⟨false, true, false⟩ }) ∈ crowd.table ∧
    sameSession (entryA .barrier 0 0 2 .held).owner (entryA .read 64 8 1 .inAccess).owner = true :=
  ⟨tableSound_crowd, by decide +kernel⟩

theorem test_witness_StepsKeepTheCreditAccounts : State.accountsSound up ∧ ∃ t, step up = .next t :=
  ⟨accountsSound_up, _, rfl⟩

theorem test_witness_StepsKeepOpeningsSpaced : brim.openingsSpaced ∧ ∃ t, step brim = .next t := by
  refine ⟨⟨by decide +kernel, by decide +kernel, fun t ht => ⟨10240, rfl, ?_⟩, fun u hu => ?_⟩, _, rfl⟩
  · revert t
    decide +kernel
  · cases hu
    decide +kernel

theorem test_witness_CreditsInRange : State.accountsSound up ∧ State.creditsInRange up ∧ State.tableSound up ∧
    ∃ t, step up = .next t :=
  ⟨accountsSound_up, fun p => by cases p <;> exact ⟨by decide +kernel, by decide +kernel⟩, tableSound_up, _, rfl⟩

theorem test_witness_StepsKeepCountsInRange : brim.banksInRange ∧ brim.countersInRange ∧ brim.linksInRange ∧
    brim.freeUnitIdle ∧ ∃ t, step brim = .next t := by
  refine ⟨by unfold State.banksInRange; decide +kernel,
    ⟨by decide +kernel, by decide +kernel, by decide +kernel, by decide +kernel, by decide +kernel, by decide +kernel,
      fun f h => nomatch h⟩, fun p => ?_, fun _ => rfl, _, rfl⟩
  refine ⟨by cases p <;> decide +kernel, by cases p <;> decide +kernel, by cases p <;> decide +kernel,
    by cases p <;> decide +kernel, by cases p <;> decide +kernel, fun i x h => ?_⟩
  have e : ∀ i : Fin 6, (brim.link p).notices[i] = none := by cases p <;> decide +kernel
  rw [e i] at h
  cases h

theorem test_witness_StepsKeepRecordsAndMapsInOrder : brim.recordsDistinct ∧ brim.canonical ∧ ∃ t, step brim = .next t :=
  ⟨by unfold State.recordsDistinct; decide +kernel, by unfold State.canonical; decide +kernel, _, rfl⟩

/-! ### Witnesses: supply, reset, readings, power -/

theorem test_witness_ReadingsSetTheHotFlag :
    (-40 ≤ (85 : Int) ∧ (85 : Int) ≤ 125 ∧ true = (if 85 ≤ (85 : Int) then true else if (85 : Int) ≤ 80 then false else true)) ∧
    false = (if 85 ≤ (80 : Int) then true else if (80 : Int) ≤ 80 then false else true) ∧
    (let s : State := { upIn .starting with maint := { up.maint with readingAsked := true } }
     s.power.state = .starting ∧ s.maint.readingAsked = true) ∧
    (upIn .active).power.state ≠ .starting ∧ (upIn .starting).maint.readingAsked = false := by decide +kernel

theorem test_witness_EndOfHeldStartsUp :
    (State.reset.powerOnReset = true ∧ State.reset.rstHigh = true) ∧
    (let s : State := { State.reset with rstHigh := false }
     s.powerOnReset = true ∧ s.rstHigh = false ∧ ∀ c, (s.bank c).intervalDue = none) ∧
    (let s : State := { up with rstHigh := false }
     s.rstHigh = false ∧ s.powerOnReset = false) ∧
    (let s : State := { State.reset with rstHigh := false }
     s.rstHigh = false ∧ s.powerOnReset = true) := by decide +kernel

/-- A release of RST_N within the power-on reset samples OWNER_SEL (R125), and a hit streak is 0 at a release (R65). -/
theorem test_release :
    (∃ t, exec (.resetRelease true) { State.reset with rstHigh := false } = .next t ∧ t.owner = .b ∧ t.power.state = .held) ∧
    ∃ t, exec (.resetRelease false) { upBank { openBank with hitStreak := 9 } with rstHigh := false } = .next t ∧
      t.owner = .a ∧ (t.bank 1).hitStreak = 0 ∧ (t.bank 1).state = .opened :=
  ⟨⟨_, rfl, rfl, rfl⟩, ⟨_, rfl, rfl, by decide +kernel⟩⟩

theorem test_witness_PinResetClearsThePart : up.rstHigh = true ∧
    (let s : State := { up with mgmt := ⟨[], .restartDue⟩ }
     s.mgmt.unit = .restartDue) := by decide +kernel

theorem test_witness_StartUpAndWakingEndInActive :
    ((upIn .starting).maint.cal = .idle ∧ (upIn .starting).power.state = .starting ∧
      (upIn .starting).maint.readingAsked = false ∧
      ∀ b, ((upIn .starting).bank b).debt = 0 ∧ ((upIn .starting).bank b).state ≠ .refreshing) ∧
    ((upIn .waking).maint.cal = .idle ∧ (upIn .waking).power.state = .waking) ∧
    (let s : State := { up with power := { up.power with timeBase := 0xFFFFFFFF, tickDue := some 512000000 } }
     s.power.tickDue = some 512000000) ∧ State.reset.power.tickDue = none := by decide +kernel

theorem test_witness_NapFollowsItsConditions :
    up.napConditions = true ∧ crowd.napConditions = false ∧
    (let s : State := { up with power := { up.power with idleDue := some 7 } }
     s.power.idleDue = some 7) ∧
    (let s : State := { up with power := { up.power with napDue := true } }
     s.power.napDue = true ∧ s.power.state = .active ∧ s.store.napIdle ≠ 0 ∧ s.table = [] ∧ s.maint.cal = .idle ∧
       ∀ b, (s.bank b).state = .closed) ∧
    (let s : State := { up with power := { up.power with exitDue := some 10240 } }
     s.power.exitDue = some 10240) := by decide +kernel

theorem test_witness_EnteringLeadsToRetain :
    (let s : State := { upIn .nap with portA := { up.portA with vote := true }, portB := { up.portB with vote := true } }
     (s.power.state = .active ∨ s.power.state = .nap) ∧ (s.portA.vote = true ∨ s.portB.vote = true) ∧
       (s.port .a).vote = true ∧ (s.port .b).vote = true ∧ s.table = [] ∧ s.fill = none ∧ s.maint.cal = .idle) ∧
    ((upIn .entering).power.state = .entering ∧ (upIn .entering).linkClear .a = true ∧ (upIn .entering).linkClear .b = true ∧
      ∀ b, ((upIn .entering).bank b).debt = 0 ∧ ((upIn .entering).bank b).state ≠ .refreshing) := by decide +kernel

/-! ### Witnesses: openings, closes, refreshes -/

/-- A row open queued for bank 1. -/
def queued1 : State := upTable [(0, entryA .read 64 8 0 .queued)]

theorem test_witness_OpeningArbiterChoosesByClass :
    (upBank { Bank.powerOn with debt := 6 }).openingChoice = some (1, .refresh) ∧
    queued1.openingChoice = some (1, .rowOpen 0) ∧ (upBank { Bank.powerOn with debt := 1 }).openingChoice = some (1, .refresh) ∧
    up.openingChoice = none ∧ (up.bank 0).state = .closed := by decide +kernel

/-- Four starts in the window, the last one exactly 5 ns ago. -/
def fourStarts : State := { queued1 with window := [0, 2560, 5120, 7680], spacing := some 7680, now := 10240 }

theorem test_witness_OpeningGrantBegins :
    (fourStarts.openingChoice = some (1, .rowOpen 0) ∧
      (fourStarts.window.filter fun t => fourStarts.now < t + ns 36).length < 5 ∧ 7680 + ns 5 ≤ fourStarts.now ∧
      fourStarts.calRunDue = none ∧ fourStarts.power.exitDue = none ∧ fourStarts.calPending = false) ∧
    (let s : State := { upBank { Bank.powerOn with debt := 7 } with maint := { up.maint with cal := .pending .long } }
     let s := s.setBank 2 openBank
     s.openingChoice = some (1, .refresh) ∧ (s.bank 2).state ≠ .closed) ∧
    up.openingChoice = none ∧
    (let s : State := { fourStarts with window := [0, 2560, 5120, 7680, 10240] }
     5 ≤ (s.window.filter fun t => s.now < t + ns 36).length) ∧
    (let s : State := { fourStarts with now := 10239 }
     s.spacing = some 7680 ∧ s.now < 7680 + ns 5) ∧
    (let s : State := { up with calRunDue := some 1 }
     s.calRunDue ≠ none) ∧
    (let s : State := { up with power := { up.power with exitDue := some 1 } }
     s.power.exitDue ≠ none) ∧
    (let s : State := { upBank { Bank.powerOn with debt := 7 } with maint := { up.maint with cal := .pending .long } }
     s.openingChoice = some (1, .refresh) ∧ s.calPending = true ∧ ∀ c, (s.bank c).state = .closed) := by decide +kernel

theorem test_witness_BankOperationsComplete :
    ((upBank { Bank.powerOn with openDelayDue := some 8192 }).bank 1).openDelayDue = some 8192 ∧
    ((upBank { Bank.powerOn with minOpenDue := some 19456 }).bank 1).minOpenDue = some 19456 ∧
    ((upBank { Bank.powerOn with refreshDue := some 61440 }).bank 1).refreshDue = some 61440 ∧
    ((upBank { Bank.powerOn with closeDue := some 8192 }).bank 1).closeDue = some 8192 ∧
    ((upBank { openBank with lastReadEnd := some 0 }).bank 1).lastReadEnd = some 0 ∧
    ((upBank { openBank with lastWriteEnd := some 0 }).bank 1).lastWriteEnd = some 0 ∧
    (let s : State := { up with path := ⟨none, some .write, some 0⟩ }
     s.path.dir = some .write ∧ s.path.lastEnd = some 0) ∧
    brim.spacing = some 10240 ∧ brim.window = 0 :: [2560, 5120, 7680, 10240] := by decide +kernel

/-- Bank 1 OPEN with an older decision to close, its read ended 6 ns ago and its write 15 ns ago. -/
def ripe : State := { upBank { openBank with debt := 6, lastReadEnd := some 4608, lastWriteEnd := some 0 } with now := 7680 }

theorem test_witness_CloseBeginsOnItsDecision :
    ((upBank openBank).bank 1).state = .opened ∧
    ((ripe.bank 1).state = .opened ∧ (ripe.bank 1).minOpenDone = true ∧ ripe.path.flight = none ∧
      (ripe.bank 1).lastReadEnd = some 4608 ∧ 4608 + ns 6 ≤ ripe.now ∧ (ripe.bank 1).lastWriteEnd = some 0 ∧
      0 + ns 15 ≤ ripe.now ∧ ripe.closeDecision 1 = true ∧ ripe.table = []) ∧
    (let s : State := { ripe with now := 7679 }
     (s.bank 1).lastReadEnd = some 4608 ∧ ¬ 4608 + ns 6 ≤ s.now) := by decide +kernel

theorem test_witness_IdleCloseTimerFollowsItsConditions :
    (let s := upBank openBank
     s.idleCloseConditions 1 = true ∧ (s.bank 1).idleDue = none ∧ (s.bank 1).idleDecision = false ∧
       (s.settle.bank 1).idleDue = some (ns 40)) ∧
    (let s := upBank { openBank with idleDue := some 5 }
     s.idleCloseConditions 1 = true ∧ (s.bank 1).idleDue ≠ none ∧ (s.bank 1).idleDue = some 5) ∧
    (let s := upBank { openBank with idleDecision := true }
     s.idleCloseConditions 1 = true ∧ (s.bank 1).idleDecision = true ∧ (s.settle.bank 1).idleDecision = true) ∧
    up.idleCloseConditions 1 = false := by decide +kernel

theorem test_witness_IntervalExpiryRaisesDebt :
    (let s := upBank { Bank.powerOn with intervalDue := some 9, debt := 6 }
     (s.bank 1).intervalDue = some 9 ∧ (s.bank 1).debt < 7) ∧
    (let s := upBank { Bank.powerOn with intervalDue := some 9, debt := 7 }
     (s.bank 1).intervalDue = some 9 ∧ 7 ≤ (s.bank 1).debt) := by decide +kernel

/-! ### Witnesses: the column path and the entries -/

/-- A READ of bank 1 queued on its open row. -/
def hit1 : State := queued1.setBank 1 openBank

/-- A READ of bank 1 waiting for its write-back. -/
def update1 : State := (upTable [(0, { entryA .read 64 8 0 .inUpdate with writeBack := [0] })]).setBank 1 openBank

theorem test_witness_ColumnArbiterChoosesTheOldest :
    update1.writeBackChoice = some (0, { entryA .read 64 8 0 .inUpdate with writeBack := [0] }) ∧
    hit1.firstAccessChoice = some (0, entryA .read 64 8 0 .queued) ∧
    (upIn .held).power.state = .held ∧
    (let s : State := { up with runDown := true }
     s.runDown = true) ∧
    (midway.power.state ≠ .held ∧ midway.runDown = false ∧ midway.writeBackChoice = none ∧
      (1, { entryA .read 128 8 1 .inUpdate with writeBack := [3] }) ∈ midway.table) ∧
    (let s : State := hit1.setBank 1 { openBank with debt := 6 }
     s.power.state ≠ .held ∧ s.runDown = false ∧ s.firstAccessChoice = none ∧ (0, entryA .read 64 8 0 .queued) ∈ s.table ∧
       (s.bank 1).state = .opened ∧ (s.bank 1).openRow = some (rowOf 64)) := by decide +kernel

theorem test_witness_ColumnGrantsStartTheAccess :
    (hit1.writeBackChoice = none ∧ hit1.firstAccessChoice = some (0, entryA .read 64 8 0 .queued) ∧
      hit1.pathAllows (entryA .read 64 8 0 .queued).firstDirection = true ∧
      ∀ x ∈ hit1.table, x.2.queuedOn 1 = true → x.2.older (entryA .read 64 8 0 .queued) = true →
        some (rowOf x.2.first) = (hit1.bank 1).openRow) ∧
    (let miss : Nat × Entry := (1, entryA .read 1088 8 0 .queued)
     let s : State := (upTable [miss, (2, entryA .read 64 8 1 .queued)]).setBank 1 openBank
     s.firstAccessChoice = some (2, entryA .read 64 8 1 .queued) ∧ miss ∈ s.table ∧ miss.2.queuedOn 1 = true ∧
       miss.2.older (entryA .read 64 8 1 .queued) = true ∧ some (rowOf miss.2.first) ≠ (s.bank 1).openRow) ∧
    (update1.writeBackChoice = some (0, { entryA .read 64 8 0 .inUpdate with writeBack := [0] }) ∧
      update1.pathAllows .write = true) ∧
    (let s : State := { update1 with path := ⟨none, some .read, some 0⟩, now := 1023 }
     s.writeBackChoice = some (0, { entryA .read 64 8 0 .inUpdate with writeBack := [0] }) ∧ s.pathAllows .write = false) := by
  decide +kernel

theorem test_witness_AccessesTakeTheirBlocks :
    (entryA .read 64 8 0 .queued).kind = .read ∧ (entryA .fill 64 8 0 .queued).kind = .fill ∧
    (∃ m ∈ [1#32], m ≠ 0#32 ∧ m ≠ BitVec.allOnes 32) ∧
    (∀ m ∈ [0#32, BitVec.allOnes 32], m = 0#32 ∨ m = BitVec.allOnes 32) :=
  ⟨rfl, rfl, ⟨1#32, by simp, by decide, by decide⟩, fun m h => by simpa using h⟩

/-- A read of blocks 64 and 65 in flight, for the entry in slot 0 or for none. -/
def reading (slot : Option Nat) : State :=
  { upTable [(0, entryA .read 64 2 0 .inAccess)] with path := ⟨some ⟨slot, 1, .read, 64, 2, [], 8192⟩, none, none⟩ }

/-- A write of block 64 in flight, for the entry in slot 0 or for none. -/
def writing (slot : Option Nat) (st : EntryState) : State :=
  { upTable [(0, entryA .write 64 1 0 st)] with
    path := ⟨some ⟨slot, 1, .write, 64, 1, [(64, List.replicate 32 7)], 1024⟩, none, none⟩ }

theorem test_witness_ReadTransferEndHandsTheBlocksOn :
    ((reading none).path.flight.map fun f => (f.dir, f.slot)) = some (.read, none) ∧
    ((reading (some 0)).path.flight.map fun f => (f.dir, f.slot)) = some (.read, some 0) ∧
    (reading (some 0)).entry 0 = some (entryA .read 64 2 0 .inAccess) := by decide +kernel

theorem test_witness_ReadsClassifyTheirBlocks :
    (entryA .read 64 2 0 .inAccess).kind = .read ∧ (entryA .scrub 64 8 0 .inAccess).kind = .scrub ∧
    ReadClass.poisoned ∉ [ReadClass.corrected, .ok] ∧ ReadClass.corrected ∈ [ReadClass.corrected, .ok] ∧
    (entryA .read 64 2 0 .inAccess).owner = .port .a 1 0 false ∧ (entryA .read 64 2 0 .inAccess).source = .portARead ∧
    ({ entryA .read 64 2 0 .inAccess with owner := .port .b 1 0 true } : Entry).source = .portBRead ∧
    (entryA (.maskedWrite [1]) 64 1 0 .inAccess).kind = .maskedWrite [1] ∧
    (entryA (.atomic .swap 24 5 0) 64 1 0 .inAccess).kind = .atomic .swap 24 5 0 := by decide +kernel

theorem test_witness_MaskedWriteMergesItsBlocks :
    let masks : List (BitVec 32) := [BitVec.allOnes 32, 1#32, 2#32, 0#32]
    let blocks : List ReadBlock := [⟨.ok, []⟩, ⟨.corrected, []⟩, ⟨.poisoned, []⟩, ⟨.ok, []⟩]
    let e : Entry := entryA (.maskedWrite masks) 64 4 0 .inAccess
    e.kind = .maskedWrite masks ∧ masks.length = blocks.length ∧ e.count = blocks.length ∧
    (e.afterRead true blocks).writeBack = [0, 1] ∧ (e.afterRead true blocks).skipped = [2] ∧
    masks[1]? = some 1#32 ∧ blocks[1]? = some ⟨.corrected, []⟩ := by decide +kernel

theorem test_witness_AtomicReplacesItsOperand :
    (entryA (.atomic .swap 24 5 0) 64 1 0 .inAccess).kind = .atomic .swap 24 5 0 ∧ (List.replicate 32 1#8).length = 32 ∧
    24 + 8 ≤ 32 ∧ ReadClass.corrected ≠ .poisoned ∧ (5#64 = 5#64) ∧ (4#64 ≠ 5#64) := by decide +kernel

theorem test_witness_WriteTransferEndStoresTheBlocks :
    ((writing none .inAccess).path.flight.map fun f => (f.dir, f.slot)) = some (.write, none) ∧
    ((writing (some 0) .inUpdate).path.flight.map fun f => (f.dir, f.slot)) = some (.write, some 0) ∧
    (writing (some 0) .inUpdate).entry 0 = some (entryA .write 64 1 0 .inUpdate) := by decide +kernel

/-- A write-back that ends leaves a DONE entry without a write-back set, in its port's reply list (R22, R38). -/
theorem test_writeBackEnds : ∃ t, exec .writeTransferEnd midway = .next t ∧
    t.entry 1 = some (entryA .read 128 8 1 .done) ∧ (t.port .a).replies = [0, 1] := ⟨_, rfl, by decide +kernel⟩

/-- A fill of Port B over blocks 0 to 31, three groups written or in flight, slot 96 the one about to be freed. -/
def filling (f : Fill) : State :=
  { upTable ((List.range 3).map fun i =>
      (96 + i, { entryA .fill (8 * i) 8 0 .inAccess with owner := .maintenance })) with fill := some f }

theorem test_witness_FillEntryDone :
    (let f : Fill := ⟨.b, 0, 32, 0, 0, 24, 3, false, none⟩
     (filling f).fill = some f ∧ f.aborting = false ∧ f.cursor < f.first + f.count ∧ f.inFlight = 3 ∧
       State.heldByMaintenance { filling f with table := Sparse.erase (filling f).table 96 } < 4) ∧
    (let f : Fill := ⟨.b, 0, 24, 0, 0, 24, 2, false, none⟩
     f.first + f.count ≤ f.cursor ∧ 2 ≤ f.inFlight ∧ (filling f).fill = some f) ∧
    (let f : Fill := ⟨.b, 0, 24, 0, 0, 24, 1, false, none⟩
     f.aborting = false ∧ f.cursor = f.first + f.count ∧ f.inFlight = 1) ∧
    (let f : Fill := ⟨.b, 0, 32, 0, 0, 8, 1, true, some (.a, 5)⟩
     let done : State := (State.reevaluate { filling f with
       table := Sparse.erase (filling f).table 96, fill := none }).takePendingStep
     f.aborting = true ∧ f.inFlight = 1 ∧ f.abortReply = some (.a, 5) ∧ (done.link .a).state = .active ∧
       (done.link .a).control.length < 64) ∧
    (⟨.b, 0, 32, 0, 0, 8, 1, true, none⟩ : Fill).abortReply = none := by decide +kernel

/-- The abort of a fill is answered with the cursor as its last entry is freed (R116). -/
theorem test_abortAnswered : ((((filling ⟨.b, 0, 32, 0, 0, 8, 1, true, some (.a, 5)⟩).entryDone 96
    { entryA .fill 0 8 0 .inAccess with owner := .maintenance }).link .a).control = [okReply 5 24 8 0 []]) := by decide +kernel

theorem test_witness_DoneEntriesJoinTheReplyList :
    (entryA .read 64 8 0 .inAccess).owner = .port .a 1 0 false ∧
    (let e : Entry := { entryA .read 64 8 0 .inAccess with owner := .port .a 1 0 true }
     (upTable [(0, e)]).entry 0 = some e ∧ e.owner = .port .a 1 0 true) ∧
    (let e : Entry := { entryA .scrub 64 8 0 .inAccess with owner := .maintenance }
     e.owner = .maintenance ∧ e.kind = .scrub) ∧
    (crowd.entry 3 = none ∧ ∃ x ∈ crowd.table, ∃ u o, x.2.owner = .port .a u (crowd.port .a).session o) ∧
    up.entry 0 = none ∧ up.table = [] :=
  ⟨rfl, by decide +kernel, by decide +kernel,
    ⟨by decide +kernel, (0, entryA .read 64 8 0 .inAccess), by decide +kernel, 1, false, rfl⟩, by decide +kernel⟩

theorem test_witness_DoneEntries_agesSound : crowd.agesSound ∧ State.agesSound up :=
  ⟨tableSound_crowd.2.1, by decide +kernel, by decide +kernel, fun f h => nomatch h⟩

theorem test_witness_ReportsAreRecorded :
    brim.errors.records.find? (fun x => x.block = 0) = some ⟨65535, 0, .scrub, 0, 65535, false⟩ ∧
    ((∀ r ∈ brim.errors.records, r.block ≠ 9) ∧ brim.errors.records.length < 16) ∧
    (let s : State := { up with errors := ⟨(List.range 15).map fun i => ⟨i, i, .scrub, 0, 1, true⟩, 15, 0⟩ }
     (∀ r ∈ s.errors.records, r.block ≠ 99) ∧ s.errors.records.length < 16) ∧
    (let s : State := { up with errors := ⟨(List.range 16).map fun i => ⟨i, i, .scrub, 0, 1, true⟩, 16, 65535⟩ }
     (∀ r ∈ s.errors.records, r.block ≠ 99) ∧ 16 ≤ s.errors.records.length) := by decide +kernel

/-! ### Witnesses: calibration, scrub steps, rights, holds -/

theorem test_witness_CalibrationFollowsItsTriggers :
    (upIn .entering).power.state = .entering ∧ (upIn .retain).power.state = .retain ∧ (upIn .held).power.state = .held ∧
    ((upIn .nap).power.state = .nap ∧ (upIn .nap).maint.cal = .idle) ∧
    (let s : State := { up with maint := { up.maint with cal := .pending .short, calTimerDue := some 51200000000 } }
     s.maint.cal = .pending .short ∧ s.maint.calTimerDue = some 51200000000 ∧ ∀ b, (s.bank b).state = .closed) ∧
    (let s : State := { up with maint := { up.maint with cal := .running .short }, calRunDue := some 51200 }
     s.maint.cal = .running .short ∧ s.calRunDue = some 51200) ∧
    ((upBank openBank).bank 1).state ≠ .closed := by decide +kernel

/-- Three maintenance slots occupied, and a step falling due. -/
def lastSlot : State :=
  { upTable ((List.range 3).map fun i =>
      (96 + i, { entryA .fill (64 * i) 8 i .inAccess with owner := .maintenance })) with
    scrub := ⟨4194303, 65535, some 3, false⟩ }

theorem test_witness_StepTimerExpiryTakesAStep :
    (lastSlot.scrub.stepDue = some 3 ∧ (∀ x ∈ lastSlot.table, x.2.kind ≠ .scrub) ∧ lastSlot.fill = none ∧
      lastSlot.heldByMaintenance < 4) ∧
    (let s : State := { upTable [(96, { entryA .scrub 0 8 0 .queued with owner := .maintenance })] with
        scrub := ⟨0, 0, some 3, false⟩ }
     s.scrub.stepDue = some 3 ∧ ∃ x ∈ s.table, x.2.kind = .scrub) ∧
    (let s : State := { up with scrub := ⟨0, 0, some 3, false⟩, fill := some ⟨.a, 0, 8, 0, 0, 8, 1, false, none⟩ }
     s.scrub.stepDue = some 3 ∧ s.fill ≠ none) ∧
    (let s : State := { lastSlot with scrub := ⟨4194303, 65535, some 3, true⟩ }
     s.scrub.pendingStep = true ∧ (∀ x ∈ s.table, x.2.kind ≠ .scrub) ∧ s.fill = none ∧ s.heldByMaintenance < 4) ∧
    lastSlot.scrub.pendingStep = false := by decide +kernel

/-- Regions 2 and 5 both cover granule 7, the last of one and the first of the other. -/
def regions25 : State :=
  { up with regions := (up.regions.set 2 (some ⟨4, 4, .read, .none⟩)).set 5 (some ⟨7, 1, .none, .readWrite⟩) }

theorem test_witness_LowestCoveringSlotGoverns :
    (regions25.regions[(2 : Fin 8)] = some ⟨4, 4, .read, .none⟩ ∧ 4 ≤ 7 ∧ 7 < 4 + 4 ∧
      ∀ j : Fin 8, j < 2 → regions25.regions[j] = none) ∧
    regions25.rightsOver .a 7 = .read ∧ regions25.rightsOver .b 3 = .readWrite ∧ regions25.rightsOver .b 4 = .none ∧
    ∀ i : Fin 8, up.regions[i] = none := by decide +kernel

theorem test_holdReasons :
    holdsOf crowd.table (some ⟨.a, 0, 128, 0, 1, 65, 1, false, none⟩) (entryA .write 64 2 5 .held) = ⟨true, true, true⟩ ∧
    holdsOf crowd.table none (entryA .read 72 2 1 .held) = ⟨false, false, false⟩ := by decide +kernel

/-! ### Witnesses: frames from a processor -/

theorem test_witness_FramesDecodeAsTheyAreEncoded :
    Instr.wellFormed (.train .a 255) = true ∧ (encodeFrame (.train .a 255)).isSome = true ∧
    Instr.wellFormed (.msg .b 255 0 true []) = true ∧ (encodeFrame (.msg .b 255 0 true [])).isSome = true := by decide +kernel

/-- A body: kind, tag, option, then the fields. -/
def body (kind tag option : Byte) (block : Nat) : List Byte := [kind, tag, option, 0] ++ leBytes 4 block ++ leBytes 4 0

/-- The part about to accept its fifteenth unacknowledged frame, in NAP, Port A voting. -/
def nearly : State :=
  { upLink { link0 with unacked := 14 } with
    power := { up.power with state := .nap }
    portA := { up.portA with link := { link0 with unacked := 14 }, vote := true } }

/-- The part about to accept its sixteenth unacknowledged frame, a credit of each class pending return. -/
def sixteenth : State := upLink { link0 with unacked := 15, memOut := 1, memPend := 1, mgmtOut := 1, mgmtPend := 1 }

/-- A READ of the last block, and the BARRIER done at its admission, which makes 16 unacknowledged. -/
theorem test_witness_MemoryRequestsAreAdmitted :
    (let r : MemRequest := .read 33554431 1
     nearly.receives .a = true ∧ (body 1 9 1 33554431).length ≤ 300 ∧ (nearly.takeAck .a 0 false).receives .a = true ∧
     (0 : Byte) = ((nearly.takeAck .a 0 false).link .a).expected ∧ parseBody (body 1 9 1 33554431) = .memory r ∧
     (nearly.link .a).memOut ≠ 0 ∧ nearly.tagInUse .a ((body 1 9 1 33554431).getD 1 0) = false ∧
     memRange r = some (33554431, 1) ∧ 33554431 < 33554432 ∧ 33554431 % 64 + 1 ≤ 64 ∧
     memAllowed r (nearly.rightsOver .a (33554431 / 2048)) = true ∧ nearly.power.state ≠ .entering ∧
     nearly.freeSlot (partitionStart .a) 48 = some 0 ∧ nearly.mgmt.queue = []) ∧
    (sixteenth.receives .a = true ∧ (sixteenth.takeAck .a 0 false).receives .a = true ∧
     (0 : Byte) = ((sixteenth.takeAck .a 0 false).link .a).expected ∧ parseBody (body 5 9 0 0) = .memory .barrier ∧
     (sixteenth.link .a).memOut ≠ 0 ∧ sixteenth.tagInUse .a ((body 5 9 0 0).getD 1 0) = false ∧
     memRange .barrier = none ∧ sixteenth.power.state ≠ .entering ∧ sixteenth.freeSlot (partitionStart .a) 48 = some 0 ∧
     sixteenth.mgmt.queue = []) ∧
    (parseBody (body 25 9 0 0) = .management .retainVote ∧ (sixteenth.link .a).mgmtOut ≠ 0 ∧
     sixteenth.tagInUse .a ((body 25 9 0 0).getD 1 0) = false) := by decide +kernel

/-- The sixteenth acceptance sends its ACK frame with the credits pending, and the BARRIER is DONE in its reply list. -/
theorem test_sixteenth :
    (nextOf (exec (.msg .a 0 0 false (body 5 9 0 0)) sixteenth)).map (fun t => (t.portA.tx, t.portA.replies,
        t.portA.link.unacked, t.portA.link.memOut, t.portA.link.memPend)) =
      some ([⟨2, 0, 0, 1, 1, true, []⟩], [0], 0, 1, 0) := by decide +kernel

/-- A message the part has sent. -/
def sent : Message := okReply 1 28 0 0 []

/-- One case for each reason: unknown kind, wrong form, a tag in use, a block beyond the part, a range across a row, rights
that do not allow, ENTERING. -/
theorem test_witness_FailingMessagesAreRefused :
    (up.receives .a = true ∧ (up.takeAck .a 0 false).receives .a = true ∧
      (up.link .a).control.length < 64 ∧ (up.link .a).memOut ≠ 0 ∧ (up.link .a).mgmtOut ≠ 0 ∧ up.mgmt.queue = []) ∧
    parseBody [] = .unknownKind ∧ parseBody [1, 2] = .malformed .memory ∧
    (parseBody (body 25 1 0 0) = .management .retainVote ∧ crowd.tagInUse .a ((body 25 1 0 0).getD 1 0) = true) ∧
    (parseBody (body 1 1 1 33554432) = .memory (.read 33554432 1) ∧ up.tagInUse .a 1 = false ∧ 33554432 ≤ 33554432) ∧
    (memRange (.read 63 2) = some (63, 2) ∧ 64 < 63 % 64 + 2) ∧
    (let s : State := { up with store := { up.store with defaultRightsA := .none } }
     memAllowed (.read 0 1) (s.rightsOver .a (0 / 2048)) = false) ∧
    ((upIn .entering).power.state = .entering ∧ memAllowed (.read 0 1) ((upIn .entering).rightsOver .a (0 / 2048)) = true) ∧
    (parseBody (body 5 1 0 0) = .memory .barrier ∧ memRange .barrier = none) ∧
    (let s := upLink { link0 with control := List.replicate 64 sent }
     s.receives .a = true ∧ (s.takeAck .a 0 false).receives .a = true ∧ 64 ≤ (s.link .a).control.length ∧
       (s.link .a).state = .active) ∧
    (State.reset.link .a).state ≠ .active := by
  decide +kernel

theorem test_witness_MessagesAreTakenInSequence :
    (upLink Link.cleared).receives .a = false ∧
    (let s := upLink { link0 with next := 1, sentCount := 0 }
     s.receives .a = true ∧ (s.takeAck .a 9 true).receives .a = false) ∧
    (let s := upLink { link0 with memOut := 0 }
     s.receives .a = true ∧ (s.takeAck .a 0 false).receives .a = true ∧ (0 : Byte) = (s.link .a).expected ∧
       (parseBody (body 1 1 1 0)).creditClass = some .memory ∧ (s.link .a).memOut = 0) ∧
    (let s := upLink { link0 with mgmtOut := 0 }
     (parseBody (body 25 1 0 0)).creditClass = some .management ∧ (s.link .a).mgmtOut = 0) ∧
    (let s := upLink { link0 with awaitingReplay := true }
     (1 : Byte) ≠ (s.link .a).expected ∧ (s.link .a).awaitingReplay = true) ∧
    (up.link .a).awaitingReplay = false ∧ 1 ≤ ((up.link .a).expected - 255).toNat ∧ ((up.link .a).expected - 128).toNat ≤ 128 ∧
    128 < ((up.link .a).expected - 127).toNat := by decide +kernel

/-- Two frames, numbers 0 and 1, sent and not acknowledged. -/
def two : Link := { link0 with next := 2, sentCount := 2, buffer := [⟨0, sent, 0, 0⟩, ⟨1, sent, 0, 0⟩], resend := some 0 }

theorem test_witness_AcknowledgementsEmptyTheBuffer :
    (two.next - 1 - 0).toNat < two.buffer.length ∧ (two.next - 1 - 1).toNat < two.buffer.length ∧
    (upLink two).mgmt.unit ≠ .stopped .a ∧
    (let l : Link := { two with buffer := [], resend := none }
     l.buffer.length ≤ (l.next - 1 - 0).toNat ∧ (l.next - 1 - 0).toNat < l.sentCount) ∧
    (two.buffer.length ≤ (two.next - 1 - 255).toNat ∧ two.sentCount ≤ (two.next - 1 - 255).toNat) ∧
    (let s : State := { upLink two with mgmt := ⟨[], .stopped .a⟩ }
     s.mgmt.unit = .stopped .a ∧ ((s.link .a).next - 1 - 0).toNat < (s.link .a).buffer.length ∧
       (s.takeAck .a 0 true).mgmt.unit = .restartDue) ∧
    (let s : State := { up with mgmt := ⟨[], .restartDue⟩ }
     s.mgmt.unit = .restartDue) := by decide +kernel

theorem test_witness_LossesAreReplayed :
    (up.receives .a = true ∧ (up.takeAck .a 0 false).receives .a = true ∧ (up.link .a).awaitingReplay = false) ∧
    1 ≤ ((1 : Byte) - (up.link .a).expected).toNat ∧ ((127 : Byte) - (up.link .a).expected).toNat ≤ 127 ∧
    ((0 : Byte) - (up.link .a).expected).toNat = 0 ∧ 128 ≤ ((128 : Byte) - (up.link .a).expected).toNat ∧
    ((upLink { link0 with awaitingReplay := true }).link .a).awaitingReplay = true ∧
    State.receives (upLink Link.cleared) .a = false ∧
    (let s := upLink { link0 with next := 1, sentCount := 0 }
     s.receives .a = true ∧ (s.takeAck .a 9 true).receives .a = false) ∧
    (let s : State := { upLink two with mgmt := ⟨[], .stopped .a⟩ }
     s.receives .a = true ∧ (s.takeAck .a 0 true).receives .a = false ∧ (s.takeAck .a 0 true).mgmt.unit = .restartDue) := by
  decide +kernel

theorem test_witness_RetriesRewindOrEndTheSession :
    (let s := upLink { two with retry := 2 }
     s.receives .a = true ∧ ((0 : Byte) - 0).toNat ≤ (s.link .a).buffer.length ∧ ((2 : Byte) - 0).toNat ≤ (s.link .a).buffer.length ∧
       (s.link .a).buffer.length < ((3 : Byte) - 0).toNat ∧ s.mgmt.unit ≠ .stopped .a ∧ (s.link .a).retry < 3) ∧
    3 ≤ ((upLink { two with retry := 3 }).link .a).retry ∧
    (let s : State := { upLink two with mgmt := ⟨[], .stopped .a⟩ }
     s.receives .a = true ∧ ((1 : Byte) - 0).toNat ≤ (s.link .a).buffer.length ∧ s.mgmt.unit = .stopped .a ∧
       ∃ f ∈ (s.link .a).buffer.take ((1 : Byte) - 0).toNat,
         f.message.kind = 37 ∧ f.message.option = 28 ∧ f.message.status = 0) ∧
    (let s := upLink { two with retry := 3, ackDue := some 1, replayDue := some 2, replayRequestDue := some 3 }
     (s.link .a).ackDue = some 1 ∧ (s.link .a).replayDue = some 2 ∧ (s.link .a).replayRequestDue = some 3 ∧
       (s.link .a).state = .active) := by decide +kernel

/-! ### Witnesses: frames to a processor -/

theorem test_witness_ArbiterTakesInOrder :
    (let s := upLink { link0 with control := [sent] }
     (s.link .a).state = .active ∧ (s.link .a).buffer.length < 32 ∧ (s.link .a).resend = none ∧ (s.link .a).control = [sent]) ∧
    (let e : Entry := { entryA .read 64 1 0 .done with status := some .ok }
     let s : State := { upTable [(0, e)] with portA := { up.portA with replies := [0] } }
     (s.link .a).control = [] ∧ (s.port .a).replies = [0] ∧ s.entry 0 = some e ∧ e.owner = .port .a 1 0 false) ∧
    (let s := up.raiseNotice .a .retainEntering
     (s.link .a).control = [] ∧ (s.port .a).replies = [] ∧ (s.link .a).notices[(5 : Fin 6)] = some ⟨.retainEntering, 0⟩ ∧
       ∀ j : Fin 6, j < 5 → (s.link .a).notices[j] = none) := by decide +kernel

theorem test_witness_ResentFramesKeepTheirContents :
    (two.resend = some (⟨0, sent, 0, 0⟩ : BufferedFrame).number ∧
      two.buffer = [] ++ ⟨0, sent, 0, 0⟩ :: [⟨1, sent, 0, 0⟩]) ∧
    (let l : Link := { two with resend := some 1 }
     l.resend = some (⟨1, sent, 0, 0⟩ : BufferedFrame).number ∧ l.buffer = [⟨0, sent, 0, 0⟩] ++ ⟨1, sent, 0, 0⟩ :: [] ∧
       (⟨0, sent, 0, 0⟩ : BufferedFrame).number ≠ 1) := by decide +kernel

theorem test_witness_RepliesCarryTheResult :
    ((entryA .barrier 0 0 0 .done).kind = .barrier ∧ (entryA .barrier 0 0 0 .done).count = 0 ∧
      (entryA .barrier 0 0 0 .done).first = 0 ∧ (entryA .barrier 0 0 0 .done).status = none) ∧
    (entryA .read 64 1 0 .done).owner = .port .a 1 0 false ∧
    ({ entryA .read 64 1 0 .done with status := some .corrected } : Entry).status = some .corrected ∧
    (entryA .write 64 1 0 .done).kind = .write ∧ (entryA (.maskedWrite [1]) 64 1 0 .done).kind = .maskedWrite [1] ∧
    (entryA (.atomic .fetchOr 24 1 0) 64 1 0 .done).kind = .atomic .fetchOr 24 1 0 ∧
    (∀ i ∈ [0, 7], i < 8) ∧ positionByte [0, 7] = 129 := by decide +kernel

/-- A THERMAL notice of -40 °C, HOT left (R160). -/
theorem test_notice : NoticeSlot.message ⟨.thermal (-40) false, 3⟩ = ⟨38, 0, 2, 3, 0, 0xD8, []⟩ := by decide +kernel

theorem test_witness_TrainIsTakenByState :
    (State.reset.mgmt.unit ≠ .restartDue ∧ State.reset.power.state = .held) ∧
    (let s : State := { State.reset with power := { Power.powerOn with state := .waking } }
     s.power.state = .waking ∧ (s.link .a).state = .down) ∧
    (let s : State := { upIn .entering with portA := PortRec.powerOn }
     s.power.state = .entering ∧ (s.link .a).state = .down ∧ s.mgmt.queue = []) ∧
    (let s := upIn .nap
     s.power.state = .nap ∧ (s.link .a).state = .active ∧ ((s.linkDown .a .hostRetrain).drain).power.state = .nap ∧
       ((s.linkDown .a .hostRetrain).drain).mgmt.queue = []) := by decide +kernel

theorem test_witness_TrainIsAnswered :
    (let s : State := upLink { Link.cleared with state := .pending, pendingRevision := some 1 }
     (s.link .a).state = .pending ∧ (s.link .a).pendingRevision = some 1) ∧ (up.link .a).state ≠ .pending ∧
    (let s : State := (upIn .retain).setLink .a { Link.cleared with state := .sleep }
     s.power.state = .retain ∧ (s.link .a).state = .sleep ∧ s.mgmt.unit ≠ .restartDue ∧ s.maint.cal = .idle) := by
  decide +kernel

/-- Port A's entries in each state but DONE, a READ in HELD behind a WRITE and a BARRIER behind both; a BARRIER of Port B held
behind a WRITE. -/
def mixed : State := upTable
  [(0, { entryA .write 64 8 0 .queued with data := List.replicate 8 [] }),
   (1, { entryA .read 64 8 1 .held with holds := ⟨true, false, false⟩ }),
   (2, { entryA .barrier 0 0 2 .held with holds := ⟨false, true, false⟩ }),
   (48, { entryA .write 128 8 3 .inAccess with owner := .port .b 1 0 false }),
   (49, { entryA .barrier 0 0 4 .held with owner := .port .b 2 0 false, holds := ⟨false, true, false⟩ })]

theorem holdsRespected_mixed : mixed.holdsRespected := by
  unfold State.holdsRespected
  decide +kernel

theorem recordsPresent_mixed : mixed.recordsPresent := by
  unfold State.recordsPresent Entry.fieldsPresent
  decide +kernel

theorem tableSound_mixed : mixed.tableSound :=
  ⟨by decide +kernel, ⟨by decide +kernel, by decide +kernel, fun _ h => nomatch h⟩,
    repliesSound_of_none (by decide +kernel) rfl rfl, fun _ _ h => (nomatch h), holdsRespected_mixed, recordsPresent_mixed⟩

theorem test_witness_LinkDownEndsTheSession :
    State.receives State.reset .a = false ∧ mixed.receives .a = true ∧ mixed.tableSound ∧ (mixed.link .a).state = .active ∧
    ((mixed.entry 0).map fun e => (e.kind, e.state)) = some (.write, .queued) ∧
    ((mixed.entry 1).map fun e => (e.kind, e.state)) = some (.read, .held) ∧
    ((mixed.entry 2).map fun e => (e.kind, e.state, e.owner)) = some (.barrier, .held, .port .a 1 0 false) ∧
    ((mixed.entry 49).map fun e => (e.kind, e.owner.port?)) = some (.barrier, some .b) ∧
    (let s := upTable [(0, entryA .read 64 8 0 .done), (96, { entryA .scrub 0 8 1 .queued with owner := .maintenance })]
     s.entry 0 = some (entryA .read 64 8 0 .done) ∧
       ({ entryA .scrub 0 8 1 .queued with owner := .maintenance } : Entry).owner.port? ≠ some .a) :=
  ⟨by decide +kernel, by decide +kernel, tableSound_mixed, by decide +kernel⟩

/-- At the link-down of Port A its entries stay as orphans; with the entry before it DONE, its held BARRIER goes. -/
theorem test_orphans :
    ((mixed.linkDown .a .hostClose).table.map fun x => (x.1, x.2.owner, x.2.state)) =
      [(0, .port .a 1 0 true, .queued), (1, .port .a 1 0 true, .held), (2, .port .a 1 0 true, .held),
       (48, .port .b 1 0 false, .inAccess), (49, .port .b 2 0 false, .held)] ∧
    (let s : State := { upTable [(0, { entryA .read 64 8 0 .done with status := some .ok }),
        (2, { entryA .barrier 0 0 2 .held with holds := ⟨false, true, false⟩ })] with
        portA := { up.portA with replies := [0] } }
     (s.linkDown .a .hostClose).table = []) := by decide +kernel

theorem test_witness_NoticesFillTheirSlots :
    (State.reset.link .a).state ≠ .active ∧
    (let s : State := { up with store := { up.store with noticeMaskA := 0x2F } }
     s.store.noticeMaskA.getLsbD 4 = false) ∧
    ((up.link .a).state = .active ∧ up.store.noticeMaskA.getLsbD 0 = true ∧ (up.link .a).notices[(5 : Fin 6)] = none) ∧
    (let s := upLink { link0 with notices := link0.notices.set 5 (some ⟨.retainEntering, 255⟩) }
     (s.link .a).notices[(5 : Fin 6)] = some ⟨.retainEntering, 255⟩) := by decide +kernel

/-! ### Witnesses: management requests -/

/-- Both ports are ready for a request, Port A the owner. -/
theorem ready_up (p : Port) : State.readyForRequest up p 7 := by
  unfold State.readyForRequest
  cases p <;> decide +kernel

/-- The same at the last values of the ranges: 14 frames unacknowledged, 63 messages queued, one credit. -/
theorem ready_brim :
    (upLink { link0 with unacked := 14, control := List.replicate 63 sent, mgmtOut := 1 }).readyForRequest .a 7 := by
  unfold State.readyForRequest
  decide +kernel

theorem test_witness_ManagementRequestsWaitTheirTurn :
    up.mgmt.queue = [] ∧
    (let s : State := { up with mgmt := ⟨[⟨.a, 1, .status false⟩], .free⟩ }
     s.mgmt.queue = ⟨.a, 1, .status false⟩ :: [] ∧ s.mgmt.unit = .free) ∧
    (let s : State := { up with mgmt := ⟨[], .stopped .b⟩ }
     s.mgmt.unit ≠ .free ∧ s.receives .a = true ∧ (s.link .a).mgmtOut ≠ 0 ∧ (s.link .a).unacked < 15 ∧
       s.tagInUse .a 7 = false) ∧
    State.reset.receives .a = false ∧
    (let s := upLink { link0 with mgmtOut := 0 }
     s.receives .a = true ∧ (s.link .a).mgmtOut = 0) ∧
    (crowd.receives .a = true ∧ (crowd.link .a).mgmtOut ≠ 0 ∧ (crowd.link .a).unacked < 15 ∧ crowd.tagInUse .a 1 = true ∧
      (crowd.link .a).control.length < 64) := by decide +kernel

theorem test_witness_EnteringAnswersPower : (upIn .entering).readyForRequest .a 7 ∧ (upIn .entering).power.state = .entering :=
  ⟨by unfold State.readyForRequest; decide +kernel, rfl⟩

theorem test_witness_ConfigGetAnswersTheKey : State.readyForRequest up .b 7 ∧ up.power.state ≠ .entering ∧
    (10 ≤ (10 : BitVec 32).toNat ∧ (0 : BitVec 32).toNat = 0) := ⟨ready_up .b, by decide +kernel⟩

theorem test_witness_ConfigSetStoresTheValue :
    (upLink { link0 with unacked := 14, control := List.replicate 63 sent, mgmtOut := 1 }).readyForRequest .a 7 ∧
    Port.a = up.owner ∧ Port.b ≠ up.owner ∧ State.readyForRequest up .b 7 := ⟨ready_brim, rfl, by decide, ready_up .b⟩

/-- Sets of NAP-IDLE of 0 and then 5, taken one after the other, clear nap due and start the timer (R178). -/
theorem test_napIdle :
    let s : State := { up with power := { up.power with napDue := true } }
    let t : State := (takeConfigSet .a 2 3 5 (takeConfigSet .a 1 3 0 s)).settle
    t.power.napDue = false ∧ t.power.idleDue = some (us 5) := by decide +kernel

theorem test_witness_StatusReportsAndClears : State.readyForRequest up .a 7 ∧ up.fill = none ∧
    (let s : State := { up with fill := some ⟨.b, 0, 8, 0, 0, 8, 1, true, none⟩ }
     s.fill = some ⟨.b, 0, 8, 0, 0, 8, 1, true, none⟩) := ⟨ready_up .a, rfl, rfl⟩

theorem test_witness_RegionsAreReadAndSet : State.readyForRequest up .a 7 ∧ up.power.state ≠ .entering ∧
    (7 : Byte).toNat = (7 : Fin 8).val ∧ 8 ≤ (8 : Byte).toNat ∧ Port.a = up.owner ∧ Port.b ≠ up.owner ∧
    ¬ ((1 : BitVec 32).toNat = 0 ∨ 16384 < (1 : BitVec 32).toNat ∨ 16384 < (16383 : BitVec 32).toNat + (1 : BitVec 32).toNat ∨
      2 < (2 : Byte).toNat ∨ 2 < (0 : Byte).toNat) ∧
    16384 < (16384 : BitVec 32).toNat + (1 : BitVec 32).toNat := ⟨ready_up .a, by decide +kernel⟩

theorem test_witness_ErrorRecordsAreFetchedAndCleared : State.readyForRequest up .a 7 ∧ up.errors.records = [] ∧
    (let r : ErrorRecord := ⟨65535, 0, .scrub, 0, 65535, true⟩
     let s : State := { up with errors := ⟨[r], 0, 0⟩ }
     s.errors.records = r :: [] ∧ r ∈ s.errors.records ∧ r.number = (65535 : BitVec 32).toNat ∧
       ∀ q ∈ s.errors.records, q.number ≠ (65536 : BitVec 32).toNat) := ⟨ready_up .a, rfl, by decide +kernel⟩

theorem test_witness_FillsStartAndAbort : State.readyForRequest up .a 7 ∧ up.fill = none ∧
    33554424 % 8 = 0 ∧ 33554424 + 8 ≤ 33554432 ∧ up.heldByMaintenance ≤ 1 ∧ State.tableSound up ∧
    up.rightsOver .a 16383 = .readWrite ∧ 33554424 / 2048 = 16383 ∧ (33554424 + 8 - 1) / 2048 = 16383 ∧
    33554432 < 33554432 + 8 ∧
    (let s : State := { up with store := { up.store with defaultRightsA := .read } }
     s.rightsOver .a 0 ≠ .readWrite) ∧
    (let f : Fill := ⟨.b, 0, 8, 0, 0, 8, 1, true, none⟩
     f.aborting = true ∧ ({ f with aborting := false } : Fill).aborting = false) :=
  ⟨ready_up .a, rfl, rfl, by decide, by decide +kernel, tableSound_up, by decide +kernel⟩

/-- A fill of 16 blocks beside a SCRUB entry in slot 97: its two entries stand in slots 96 and 98. -/
theorem test_fillSlots :
    let s := upTable [(97, { entryA .scrub 0 8 1 .queued with owner := .maintenance })]
    (nextOf (exec (.fillStart .a 7 64 16 5) s)).map (fun t =>
        t.table.map fun x => (x.1, x.2.kind, x.2.first, x.2.age, x.2.state)) =
      some [(96, .fill, 64, 10, .queued), (97, .scrub, 0, 1, .queued), (98, .fill, 72, 10, .queued)] := by decide +kernel

theorem test_witness_VotesCalibrateAndRestartAreAnswered : State.readyForRequest up .a 7 ∧ State.readyForRequest up .b 7 ∧
    (up.fill = none ∧ (up.port .a).vote = false) ∧ (nearly.port .a).vote = true ∧ nearly.fill = none ∧
    (let s : State := { up with fill := some ⟨.b, 0, 8, 0, 0, 8, 1, true, none⟩ }
     s.fill ≠ none) ∧ Port.a = up.owner ∧ Port.b ≠ up.owner := ⟨ready_up .a, ready_up .b, by decide +kernel⟩

end Sys2Proof.Tests
end

section
/-! The Update Unit's work on an ATOMIC (R80 to R83): bytes of a 64-bit value, the operand taken from a block and put back,
the new value of each operation, the record after the read. -/

namespace Sys2Proof.Machine.Atomic

/-! ### Bytes, least significant first (0.5) -/

theorem getD_leBytes {n i : Nat} (v : Nat) (hi : i < n) : (leBytes n v).getD i 0#8 = BitVec.ofNat 8 (v / 256 ^ i) := by
  simp [leBytes, List.getD_eq_getElem?_getD, hi]

@[simp] theorem length_leBytes (n v : Nat) : (leBytes n v).length = n := by simp [leBytes]

/-- Dividing by 256 to the `i` drops the `i` low bytes. -/
theorem ofNat_div_pow_256 {w : Nat} (v : BitVec w) (i : Nat) :
    BitVec.ofNat 8 (v.toNat / 256 ^ i) = (v >>> (8 * i)).setWidth 8 := by
  apply BitVec.eq_of_toNat_eq
  rw [BitVec.toNat_ofNat, BitVec.toNat_setWidth, BitVec.toNat_ushiftRight, Nat.shiftRight_eq_div_pow, Nat.pow_mul]

theorem getD_leBytes_toNat {n i w : Nat} (v : BitVec w) (hi : i < n) :
    (leBytes n v.toNat).getD i 0#8 = (v >>> (8 * i)).setWidth 8 :=
  (getD_leBytes v.toNat hi).trans (ofNat_div_pow_256 v i)

theorem leNat_cons (b : Byte) (bytes : List Byte) : leNat (b :: bytes) = b.toNat + 256 * leNat bytes := rfl

theorem leNat_lt (bytes : List Byte) : leNat bytes < 256 ^ bytes.length := by
  induction bytes with
  | nil => decide
  | cons b bytes ih =>
    have hb : b.toNat < 256 := b.isLt
    rw [leNat_cons, List.length_cons, Nat.pow_succ]
    omega

/-- The byte at a position, taken back out of the number the bytes stand for. -/
theorem ofNat_leNat_div (bytes : List Byte) (i : Nat) : BitVec.ofNat 8 (leNat bytes / 256 ^ i) = bytes.getD i 0#8 := by
  induction bytes generalizing i with
  | nil => simp [leNat]
  | cons b bytes ih =>
    have hb : b.toNat < 256 := b.isLt
    rw [leNat_cons]
    cases i with
    | zero =>
      apply BitVec.eq_of_toNat_eq
      rw [BitVec.toNat_ofNat, List.getD_cons_zero, Nat.pow_zero, Nat.div_one]
      omega
    | succ i =>
      have dropped : (b.toNat + 256 * leNat bytes) / 256 = leNat bytes := by omega
      rw [Nat.pow_succ', ← Nat.div_div_eq_div_mul, dropped, ih, List.getD_cons_succ]

/-! ### The operand within its block (R80, R81) -/

/-- The old value holds the bytes of the block from the offset on. -/
theorem getD_eq_atomicOld {d : List Byte} {offset i : Nat} (hi : i < 8) :
    d.getD (offset + i) 0#8 = (atomicOld d offset >>> (8 * i)).setWidth 8 := by
  have short : ((d.drop offset).take 8).length ≤ 8 := by simp
  have fits : field d offset 8 < 2 ^ 64 :=
    calc field d offset 8 < 256 ^ ((d.drop offset).take 8).length := leNat_lt _
      _ ≤ 256 ^ 8 := Nat.pow_le_pow_right (by decide) short
  rw [← ofNat_div_pow_256, atomicOld, BitVec.toNat_ofNat, Nat.mod_eq_of_lt fits, field, ofNat_leNat_div]
  simp [List.getD_eq_getElem?_getD, hi]

theorem length_atomicBlock {d : List Byte} {offset : Nat} (new : BitVec 64) (h : offset + 8 ≤ d.length) :
    (atomicBlock d offset new).length = d.length := by
  simp only [atomicBlock, List.length_append, List.length_take, length_leBytes, List.length_drop]
  omega

theorem getD_atomicBlock_inside {d : List Byte} {offset i : Nat} (new : BitVec 64) (h : offset + 8 ≤ d.length) (hi : i < 8) :
    (atomicBlock d offset new).getD (offset + i) 0#8 = (new >>> (8 * i)).setWidth 8 := by
  have before : (d.take offset).length = offset := List.length_take_of_le (by omega)
  have past : (d.take offset).length ≤ offset + i := by omega
  rw [← getD_leBytes_toNat new hi, atomicBlock, List.append_assoc, List.getD_append_right _ _ _ _ past, before,
    Nat.add_sub_cancel_left, List.getD_append _ _ _ _ (by simpa using hi)]

theorem getD_atomicBlock_outside {d : List Byte} {offset i : Nat} (new : BitVec 64) (h : offset + 8 ≤ d.length)
    (hi : i < offset ∨ offset + 8 ≤ i) : (atomicBlock d offset new).getD i 0#8 = d.getD i 0#8 := by
  have before : (d.take offset ++ leBytes 8 new.toNat).length = offset + 8 := by
    rw [List.length_append, List.length_take_of_le (by omega), length_leBytes]
  unfold atomicBlock
  rcases hi with below | above
  · rw [List.append_assoc, List.getD_append _ _ _ _ (by simp; omega)]
    simp [List.getD_eq_getElem?_getD, below]
  · rw [List.getD_append_right _ _ _ _ (by omega), before]
    simp [List.getD_eq_getElem?_getD, Nat.add_sub_cancel' above]

/-! ### The new value (R81) -/

theorem toNat_atomicNew_fetchAdd (old a b : BitVec 64) :
    (atomicNew .fetchAdd old a b).toNat = (old.toNat + a.toNat) % 2 ^ 64 := BitVec.toNat_add old a

theorem atomicNew_swap (old a b : BitVec 64) : atomicNew .swap old a b = a := rfl

theorem atomicNew_compareSwap_succeeds {old a : BitVec 64} (b : BitVec 64) (h : old = a) :
    atomicNew .compareSwap old a b = b := if_pos h

theorem atomicNew_compareSwap_fails {old a : BitVec 64} (b : BitVec 64) (h : old ≠ a) :
    atomicNew .compareSwap old a b = old := if_neg h

theorem getLsbD_atomicNew_fetchAnd (old a b : BitVec 64) (i : Nat) :
    (atomicNew .fetchAnd old a b).getLsbD i = (old.getLsbD i && a.getLsbD i) := BitVec.getLsbD_and

theorem getLsbD_atomicNew_fetchOr (old a b : BitVec 64) (i : Nat) :
    (atomicNew .fetchOr old a b).getLsbD i = (old.getLsbD i || a.getLsbD i) := BitVec.getLsbD_or

/-! ### The record after the read (R67, R68, R82, R83) -/

section Record
variable {e : Entry} {op : AtomicOp} {offset : Nat} {a b : BitVec 64} {c : ReadClass}

theorem afterRead_of_atomic (h : e.kind = .atomic op offset a b) (on : Bool) (x : ReadBlock) :
    e.afterRead on [x] = e.afterAtomicRead op offset a b x := by
  simp only [Entry.afterRead, h, List.getD_cons_zero]

theorem afterAtomicRead_poisoned (e : Entry) (op : AtomicOp) (offset : Nat) (a b : BitVec 64) (d : List Byte) :
    e.afterAtomicRead op offset a b ⟨.poisoned, d⟩ =
      { e with classes := [.poisoned], status := some .poisoned, writeBack := [], oldValue := none } := if_pos rfl

theorem afterAtomicRead_of_ne_poisoned (hc : c ≠ .poisoned) (d : List Byte) :
    e.afterAtomicRead op offset a b ⟨c, d⟩ = { e with
      classes := [c], status := some c, data := [atomicBlock d offset (atomicNew op (atomicOld d offset) a b)]
      oldValue := some (atomicOld d offset)
      writeBack := if op = .compareSwap ∧ atomicOld d offset ≠ a ∧ c = .ok then [] else [0] } := by
  simp only [Entry.afterAtomicRead, if_neg hc, atomicStoresNothing, decide_eq_true_eq]

/-- An ATOMIC reports its block if it is POISONED, and nothing else (R68). -/
theorem reportedPositions_of_atomic (h : e.kind = .atomic op offset a b) (c : ReadClass) :
    e.reportedPositions [c] = if c = .poisoned then [0] else [] := by
  simp only [Entry.reportedPositions, h]
  cases c <;> rfl

end Record

/-- Settles O30: the two outcomes of the read, POISONED and not, each by the record's equation, with the operand's bytes
taken from the block and put back by the lemmas on `atomicOld` and `atomicBlock`. -/
theorem atomicReplacesItsOperand : Obligations.AtomicReplacesItsOperand := by
  refine ⟨fun old a b => ⟨toNat_atomicNew_fetchAdd old a b, atomicNew_swap old a b, atomicNew_compareSwap_succeeds b,
    atomicNew_compareSwap_fails b, getLsbD_atomicNew_fetchAnd old a b, getLsbD_atomicNew_fetchOr old a b⟩, ?_⟩
  intro e on op offset a b d c hk hd ho
  dsimp only
  have within : offset + 8 ≤ d.length := hd ▸ ho
  rw [afterRead_of_atomic hk]
  constructor
  · rintro rfl
    rw [afterAtomicRead_poisoned]
    exact ⟨rfl, reportedPositions_of_atomic hk .poisoned⟩
  · intro hc
    rw [afterAtomicRead_of_ne_poisoned hc]
    refine ⟨atomicOld d offset, fun i hi => getD_eq_atomicOld hi,
      atomicBlock d offset (atomicNew op (atomicOld d offset) a b), (length_atomicBlock _ within).trans hd,
      fun i hi => getD_atomicBlock_inside _ within hi, fun i hi => getD_atomicBlock_outside _ within hi, rfl, ?_⟩
    rw [reportedPositions_of_atomic hk, if_neg hc]

end Sys2Proof.Machine.Atomic
end

section
/-! Rights over a granule (R127 to R129): the slot that governs it, found as the first hit of the search over the slots
in rising order. -/

namespace Sys2Proof.Machine.Regions

/-! ### A search over all indices in rising order -/

/-- The search stops at `i`: whatever it tries before is below `i`, and misses. -/
theorem findSome?_finRange_of_lowest {α : Type} {n : Nat} {f : Fin n → Option α} {i : Fin n} {a : α}
    (hit : f i = some a) (missed : ∀ j < i, f j = none) : (List.finRange n).findSome? f = some a := by
  obtain ⟨before, after, split⟩ := List.append_of_mem (List.mem_finRange i)
  have rising : (before ++ i :: after).Pairwise (· < ·) := split ▸ List.pairwise_lt_finRange n
  obtain ⟨-, -, apart⟩ := List.pairwise_append.mp rising
  have below : ∀ j ∈ before, j < i := fun j hj => apart j hj i List.mem_cons_self
  exact List.findSome?_eq_some_iff.mpr ⟨before, i, after, split, hit, fun j hj => missed j (below j hj)⟩

/-! ### The slot that covers a granule (R127) -/

theorem covers_iff {r : Region} {g : Nat} : r.covers g = true ↔ r.first ≤ g ∧ g < r.first + r.count := decide_eq_true_iff

/-- Slot `i` is disabled, or it does not cover granule `g`. -/
def Uncovering (s : State) (g : Nat) (i : Fin 8) : Prop :=
  ∀ r, s.regions[i] = some r → ¬ (r.first ≤ g ∧ g < r.first + r.count)

theorem filter_covers_eq_none_iff {s : State} {g : Nat} {i : Fin 8} :
    (s.regions[i]).filter (fun r => r.covers g) = none ↔ Uncovering s g i := by
  simp only [Option.filter_eq_none_iff, covers_iff, Uncovering]

/-! ### The governing slot (R128) -/

theorem governing_of_lowest {s : State} {g : Nat} {i : Fin 8} {r : Region} (enabled : s.regions[i] = some r)
    (covered : r.covers g = true) (lower : ∀ j < i, Uncovering s g j) : s.governing g = some r :=
  findSome?_finRange_of_lowest (Option.filter_eq_some_iff.mpr ⟨enabled, covered⟩)
    fun j hj => filter_covers_eq_none_iff.mpr (lower j hj)

theorem governing_eq_none_iff {s : State} {g : Nat} : s.governing g = none ↔ ∀ i, Uncovering s g i := by
  simp only [State.governing, List.findSome?_eq_none_iff, List.mem_finRange, true_imp_iff, filter_covers_eq_none_iff]

/-! ### The governing rights (R128, R129) -/

theorem rightsOver_of_governing {s : State} {g : Nat} {r : Region} (h : s.governing g = some r) (p : Port) :
    s.rightsOver p g = r.rights p := by rw [State.rightsOver, h]

theorem rightsOver_of_governing_none {s : State} {g : Nat} (h : s.governing g = none) (p : Port) :
    s.rightsOver p g = s.store.defaultRights p := by rw [State.rightsOver, h]

/-- Settles O36: the search over the slots ends at the lowest one that covers the granule, or finds none. -/
theorem lowestCoveringSlotGoverns : Obligations.LowestCoveringSlotGoverns := by
  intro s p g
  constructor
  · intro i r enabled first past lower
    have governs : s.governing g = some r :=
      governing_of_lowest enabled (covers_iff.mpr ⟨first, past⟩) fun j hj q hq => lower j q hj hq
    rw [rightsOver_of_governing governs]
    cases p <;> rfl
  · intro uncovered
    rw [rightsOver_of_governing_none (governing_eq_none_iff.mpr uncovered)]
    cases p <;> rfl

end Sys2Proof.Machine.Regions
end

section
/-! What a step can do, said once for every invariant: a property that each of a short list of updates keeps, every command
keeps. -/

namespace Sys2Proof.Machine.Steps

/-! ### Outcomes -/

/-- The next state, where there is one, has the property. -/
def Leads (I : State → Prop) (o : Host.Outcome State Fault Refusal) : Prop := ∀ t, o = .next t → I t

@[simp] theorem leads_next {I : State → Prop} {t : State} : Leads I (.next t) ↔ I t :=
  ⟨fun h => h t rfl, fun h u e => by cases e; exact h⟩

@[simp] theorem leads_fault {I : State → Prop} {r : Fault} : Leads I (.fault r) := fun _ e => by cases e

/-! ### The updates -/

/-- Of a link record, only the receive condition, the resend position, the timers and the counts differ; the count owed stays
or is cleared, the retry count stays or is in range. -/
def QuietLink (l l' : Link) : Prop :=
  ∃ awaiting requestDue unacked ackDue resend replayDue retry,
    l' = { l with
      awaitingReplay := awaiting, replayRequestDue := requestDue, unacked := unacked, ackDue := ackDue, resend := resend
      replayDue := replayDue, retry := retry } ∧
    (unacked = l.unacked ∨ unacked = 0) ∧ (retry = l.retry ∨ retry ≤ 4)

/-- A bank's counts are in the ranges the rules give (R4, R17, R56, R88). -/
def BankRange (r : Bank) : Prop :=
  r.debt ≤ 7 ∧ r.corrected ≤ 65535 ∧ r.hitStreak ≤ 64 ∧ r.refreshPos ≤ 32760 ∧ r.refreshPos % 8 = 0

/-- The updates that the commands are made of each keep the property. -/
structure StepInvariant (I : State → Prop) : Prop where
  queue : ∀ s rest, I s → I { s with pending := rest }
  later : ∀ s n, I s → s.now ≤ n → I { s with now := n }
  lines : ∀ s high inReset owner, I s → I { s with rstHigh := high, powerOnReset := inReset, owner := owner }
  powerUp : ∀ s high, I s → I (s.powerUp high)
  resetLow : ∀ s, I s → I s.resetLow
  settle : ∀ s, I s → I s.settle
  settleRunDown : ∀ s, I s → I s.settleRunDown
  power : ∀ s (w : Power), I s → (w.napCount = s.power.napCount ∨ w.napCount ≤ 4294967295) → I { s with power := w }
  maint : ∀ s (m : Maintenance), I s → (m.missed = s.maint.missed ∨ m.missed ≤ 65535) → I { s with maint := m }
  banks : ∀ s (B : Vector Bank 16), I s → (∀ b : Fin 16, BankRange (s.bank b) → BankRange B[b]) → I { s with banks := B }
  setCondition : ∀ s block c, I s → I (s.setCondition block c)
  grantOpening : ∀ s b o, I s → s.openingAllowed = true → I (s.grantOpening b o)
  windowSlot : ∀ s t rest, I s → s.window = t :: rest → I { s with window := rest }
  calRun : ∀ s due, I s → I { s with calRunDue := due }
  firstAccess : ∀ s slot e, I s → s.firstAccessChoice = some (slot, e) → I (s.grantFirst slot e)
  writeBack : ∀ s slot e, I s → s.writeBackChoice = some (slot, e) →
    I { s with path := { s.path with flight := some (writeBackFlight s.now slot e) } }
  readEnds : ∀ s f, I s → s.path.flight = some f → I (s.readEnds f)
  writeEnds : ∀ s f, I s → s.path.flight = some f → I (s.writeEnds f)
  stepTimer : ∀ s due waiting, I s → I { s with scrub := { s.scrub with stepDue := due, pendingStep := waiting } }
  stepFallsDue : ∀ s, I s → I s.stepFallsDue
  emit : ∀ s p f, I s → I (s.emit p f)
  quietLink : ∀ s p l, I s → QuietLink (s.link p) l → I (s.setLink p l)
  clearLink : ∀ s p, I s → I (s.setLink p Link.cleared)
  becomePending : ∀ s p revision, I s → (s.link p).state ≠ .active → I (s.becomePending p revision)
  sleep : ∀ s, I s → I { s with portA := s.portA.sleeping, portB := s.portB.sleeping }
  setVote : ∀ s p v, I s → I (s.setVote p v)
  raiseNotice : ∀ s p n, I s → I (s.raiseNotice p n)
  sendAck : ∀ s p, I s → I (s.sendAck p)
  ackProgress : ∀ s p n, I s → I (s.ackProgress p n)
  linkDown : ∀ s p why, I s → I (s.linkDown p why)
  answerTrain : ∀ s p revision, I s → I (s.answerTrain p revision)
  acceptMessage : ∀ s p h m t, I s → s.linkActive p = true → s.acceptMessage p h m = some t → I t
  arbiterTake : ∀ s p, I s → s.mayTake p = true → I (s.arbiterTake p)
  take : ∀ s q rest, I s → s.mgmt.queue = q :: rest → I (takeRequest q { s with mgmt := { s.mgmt with queue := rest } })

variable {I : State → Prop}

namespace StepInvariant

/-! ### The operations the updates make up -/

theorem at_ (K : StepInvariant I) {s : State} (hi : I s) (due : Time) : I (s.at due) :=
  K.later s _ hi (Nat.le_max_left _ _)

theorem setBank (K : StepInvariant I) {s : State} (hi : I s) {b : Fin 16} {r : Bank}
    (h : BankRange (s.bank b) → BankRange r) : I (s.setBank b r) := by
  refine K.banks s _ hi fun c => ?_
  by_cases e : c = b
  · subst e
    simpa using h
  · have := bank_setBank_of_ne s b c r e
    simp only [State.bank, State.setBank] at this
    rw [this]
    exact id

theorem mapBanks (K : StepInvariant I) {s : State} (hi : I s) {f : Fin 16 → Bank → Bank}
    (h : ∀ b r, BankRange r → BankRange (f b r)) : I (s.mapBanks f) :=
  K.banks s _ hi fun b => by simpa [State.bank] using h b (s.bank b)

/-- The power record changes, its nap-entry count as it was or in range. -/
theorem setPower (K : StepInvariant I) {s : State} (hi : I s) {w : Power}
    (h : w.napCount = s.power.napCount ∨ w.napCount ≤ 4294967295 := by exact .inl rfl) : I { s with power := w } :=
  K.power s w hi h

/-- The Maintenance Controller changes, its missed-refresh count as it was or in range. -/
theorem setMaint (K : StepInvariant I) {s : State} (hi : I s) {m : Maintenance}
    (h : m.missed = s.maint.missed ∨ m.missed ≤ 65535 := by exact .inl rfl) : I { s with maint := m } :=
  K.maint s m hi h

theorem drainFor (K : StepInvariant I) (n : Nat) {s : State} (hi : I s) : I (Machine.drainFor n s) := by
  induction n generalizing s with
  | zero => exact hi
  | succ n ih =>
    unfold Machine.drainFor
    split
    · next q rest _ hq => exact ih (K.take s q rest hi hq)
    · exact hi

theorem drain (K : StepInvariant I) {s : State} (hi : I s) : I s.drain := K.drainFor _ hi

theorem finish (K : StepInvariant I) {s : State} (hi : I s) : I s.finish := K.settle _ (K.drain hi)

theorem takeAck (K : StepInvariant I) {s : State} (hi : I s) (p : Port) (ackSeq : Byte) (v : Bool) :
    I (s.takeAck p ackSeq v) := by
  unfold State.takeAck
  split
  · simp only
    split
    · exact K.ackProgress s p _ hi
    · split
      · exact hi
      · exact K.linkDown s p _ hi
  · exact hi

theorem setLinkQuietly (K : StepInvariant I) {s : State} (hi : I s) {p : Port}
    {awaiting : Bool} {requestDue ackDue replayDue : Option Time} {unacked retry : Nat} {resend : Option Byte}
    (hu : unacked = (s.link p).unacked ∨ unacked = 0) (hr : retry = (s.link p).retry ∨ retry ≤ 4) :
    I (s.setLink p { s.link p with
      awaitingReplay := awaiting, replayRequestDue := requestDue, unacked := unacked, ackDue := ackDue, resend := resend
      replayDue := replayDue, retry := retry }) :=
  K.quietLink s p _ hi ⟨awaiting, requestDue, unacked, ackDue, resend, replayDue, retry, rfl, hu, hr⟩

theorem sendReplayReq (K : StepInvariant I) {s : State} (hi : I s) (p : Port) : I (s.sendReplayReq p) := K.emit s p _ hi

theorem findLoss (K : StepInvariant I) {s : State} (hi : I s) (p : Port) : I (s.findLoss p) :=
  K.setLinkQuietly (K.sendReplayReq hi p) (.inl rfl) (.inl rfl)

theorem lossEnded (K : StepInvariant I) {s : State} (hi : I s) (p : Port) : I (s.setLink p (s.link p).lossEnded) :=
  K.setLinkQuietly hi (.inl rfl) (.inl rfl)

theorem retryAttempt (K : StepInvariant I) {s : State} (hi : I s) (p : Port) : I (s.retryAttempt p) := by
  unfold State.retryAttempt
  simp only
  split
  · exact K.linkDown s p _ hi
  · exact K.setLinkQuietly hi (.inl rfl) (.inr (by omega))

theorem rewind (K : StepInvariant I) {s : State} (hi : I s) (p : Port) (number : Byte) : I (s.rewind p number) := by
  unfold State.rewind
  simp only
  refine K.retryAttempt (K.setLinkQuietly ?_ (.inl rfl) (.inl rfl)) p
  split
  · exact K.ackProgress s p _ hi
  · exact hi

theorem replayAll (K : StepInvariant I) {s : State} (hi : I s) (p : Port) : I (s.replayAll p) :=
  K.retryAttempt (K.setLinkQuietly hi (.inl rfl) (.inl rfl)) p

theorem repeatReplayReq (K : StepInvariant I) {s : State} (hi : I s) (p : Port) : I (s.repeatReplayReq p) := by
  unfold State.repeatReplayReq
  simp only
  split
  · exact K.setLinkQuietly (K.sendReplayReq (K.retryAttempt hi p) p) (.inl rfl) (.inl rfl)
  · exact K.retryAttempt hi p

theorem sendAgain (K : StepInvariant I) {s : State} (hi : I s) (p : Port) (f : BufferedFrame) : I (s.sendAgain p f) :=
  K.emit _ p _ (K.setLinkQuietly hi (.inr rfl) (.inl rfl))

theorem raiseBoth (K : StepInvariant I) {s : State} (hi : I s) (n : Notice) : I (s.raiseBoth n) :=
  K.raiseNotice _ .b n (K.raiseNotice s .a n hi)

theorem removeVote (K : StepInvariant I) {s : State} (hi : I s) (p : Port) : I (s.removeVote p) := by
  unfold State.removeVote
  split
  · exact K.raiseNotice _ _ _ (K.setVote s p false hi)
  · exact hi

theorem endNap (K : StepInvariant I) {s : State} (hi : I s) : I s.endNap := by
  unfold State.endNap
  split
  · exact K.setPower hi
  · exact hi

theorem missed_takeTrigger (m : Maintenance) (k : CalKind) : (m.takeTrigger k).missed = m.missed := by
  unfold Maintenance.takeTrigger
  split
  case h_5 => split <;> rfl
  all_goals rfl

theorem calTrigger (K : StepInvariant I) {s : State} (hi : I s) (k : CalKind) : I (s.calTrigger k) := by
  have triggered : I { s with maint := s.maint.takeTrigger k } := K.maint s _ hi (.inl (missed_takeTrigger _ _))
  unfold State.calTrigger
  simp only
  split
  · exact hi
  · split
    · exact K.endNap triggered
    · exact triggered

theorem startIntervals (K : StepInvariant I) {s : State} (hi : I s) : I s.startIntervals := K.mapBanks hi fun _ _ h => h

theorem startIntervalsIfStopped (K : StepInvariant I) {s : State} (hi : I s) : I s.startIntervalsIfStopped := by
  unfold State.startIntervalsIfStopped
  split
  · exact K.startIntervals hi
  · exact hi

theorem bankRange_released {r : Bank} (h : BankRange r) : BankRange r.released := by
  obtain ⟨debt, -, -, pos⟩ := h
  exact ⟨debt, Nat.zero_le _, Nat.zero_le _, pos⟩

theorem leaveHeld (K : StepInvariant I) {s : State} (hi : I s) : I s.leaveHeld :=
  K.mapBanks (K.maint _ _ (K.power s { s.power with state := .starting, napCount := 0 } hi (.inr (Nat.zero_le _)))
    (.inr (Nat.zero_le _))) fun _ _ => bankRange_released

theorem startSteps (K : StepInvariant I) {s : State} (hi : I s) : I s.startSteps := K.stepTimer s _ _ hi

theorem becomeActive (K : StepInvariant I) {s : State} (hi : I s) : I s.becomeActive :=
  K.startSteps (K.setPower (K.setPower (w := { s.power with state := .active }) hi))

theorem answerPending (K : StepInvariant I) {s : State} (hi : I s) (p : Port) : I (s.answerPending p) := by
  unfold State.answerPending
  split
  · exact K.answerTrain s p _ hi
  · exact hi

theorem answerBoth (K : StepInvariant I) {s : State} (hi : I s) : I s.answerBoth :=
  K.answerPending (K.answerPending hi .a) .b

theorem abandonEntering (K : StepInvariant I) {s : State} (hi : I s) : I s.abandonEntering :=
  K.startSteps (K.setMaint (K.removeVote (K.removeVote (K.setPower (w := { s.power with state := .active }) hi) .a) .b))

theorem trainNow (K : StepInvariant I) {s : State} (hi : I s) (p : Port) (revision : Byte) : I (s.trainNow p revision) := by
  unfold State.trainNow
  simp only
  split
  · exact K.abandonEntering (K.answerTrain s p revision hi)
  · exact K.answerTrain s p revision hi

theorem wake (K : StepInvariant I) {s : State} (hi : I s) (p : Port) (revision : Byte) : I (s.wake p revision) := by
  have cleared : I ((s.setLink .a Link.cleared).setLink .b Link.cleared) := K.clearLink _ .b (K.clearLink s .a hi)
  refine K.calTrigger (K.becomePending _ p revision
    (K.setPower (K.setVote _ .b false (K.setVote _ .a false cleared))) ?_) .long
  cases p <;> exact nofun

theorem compareReading (K : StepInvariant I) {s : State} (hi : I s) (reading : Int) : I (s.compareReading reading) := by
  unfold State.compareReading
  split
  · exact K.calTrigger hi .short
  · exact hi

theorem takeReading (K : StepInvariant I) {s : State} (hi : I s) (reading : Int) : I (s.takeReading reading) := by
  have read : I { s with maint := { s.maint with lastTemp := reading, hot := hotAfter s.maint.hot reading } } :=
    K.setMaint hi
  refine K.compareReading ?_ reading
  split
  · exact read
  · exact K.raiseBoth read _

theorem intervalExpires (K : StepInvariant I) {s : State} (hi : I s) (b : Fin 16) : I (s.intervalExpires b) := by
  unfold State.intervalExpires
  simp only
  split
  · next h => exact K.setBank hi fun ⟨_, rest⟩ => ⟨by simp only; omega, rest⟩
  · have scheduled : I (s.setBank b { s.bank b with intervalDue := some (s.now + refreshInterval s.maint.hot) }) :=
      K.setBank hi id
    exact K.raiseBoth (K.maint _ { s.maint with missed := min 65535 (s.maint.missed + 1) } scheduled
      (.inr (Nat.min_le_left _ _))) _

theorem minimumPasses (K : StepInvariant I) {s : State} (hi : I s) (began : Option Time) (span : Time) :
    I (s.minimumPasses began span) := by
  unfold State.minimumPasses
  split
  · exact hi
  · exact K.at_ hi _

theorem takeBadFrame (K : StepInvariant I) {s : State} (hi : I s) (p : Port) : I (s.takeBadFrame p) := by
  unfold State.takeBadFrame
  split
  · exact K.findLoss hi p
  · exact hi

theorem takeAckSeq (K : StepInvariant I) {s : State} (hi : I s) (p : Port) (seq : Byte) : I (s.takeAckSeq p seq) := by
  unfold State.takeAckSeq
  simp only
  split
  · split
    · exact K.lossEnded hi p
    · exact hi
  · split
    · exact K.findLoss hi p
    · exact hi

theorem linkActive_of_receives {s : State} {p : Port} (h : ¬ s.receives p = false) : s.linkActive p = true := by
  simp only [Bool.not_eq_false, State.receives, Bool.and_eq_true] at h
  exact h.1

theorem takeMessage (K : StepInvariant I) {s t : State} (hi : I s) {p : Port} {seq : Byte} {body : List Byte}
    (active : s.linkActive p = true) (h : s.takeMessage p seq body = some t) : I t := by
  unfold State.takeMessage at h
  simp only at h
  split at h
  · exact K.acceptMessage s p _ _ t hi active h
  · split at h
    · cases h
      exact hi
    · split at h
      · cases h
        exact K.sendAck s p hi
      · cases h
        exact K.findLoss hi p

end StepInvariant

/-! ### The commands -/

namespace StepInvariant

/-! Supply, reset, the world -/

theorem powerOnResetEnd (K : StepInvariant I) {s : State} (hi : I s) (high : Bool) : Leads I (execPowerOnResetEnd high s) := by
  have sampled : I { s with powerOnReset := false, owner := ownerSelected high } := K.lines s s.rstHigh false _ hi
  unfold execPowerOnResetEnd
  split
  · simp only [leads_next]
    split
    · exact K.leaveHeld sampled
    · exact K.startIntervalsIfStopped sampled
  · simpa using hi

theorem pinResetAssert (K : StepInvariant I) {s : State} (hi : I s) : Leads I (execPinResetAssert s) := by
  unfold execPinResetAssert
  split
  · exact leads_next.2 (K.resetLow _ (K.lines s false s.powerOnReset s.owner hi))
  · simpa using hi

theorem releaseInPowerOn (K : StepInvariant I) {s : State} (hi : I s) : I s.releaseInPowerOn :=
  K.mapBanks (K.maint s _ hi (.inr (Nat.zero_le _))) fun _ _ => bankRange_released

theorem resetRelease (K : StepInvariant I) {s : State} (hi : I s) (high : Bool) : Leads I (execResetRelease high s) := by
  have sampled : I { s with rstHigh := true, owner := ownerSelected high } := K.lines s true s.powerOnReset _ hi
  unfold execResetRelease
  split
  · simpa using hi
  · simp only [leads_next]
    split
    · exact K.releaseInPowerOn sampled
    · exact K.leaveHeld sampled

theorem restartTakesEffect (K : StepInvariant I) {s : State} (hi : I s) : Leads I (execRestartTakesEffect s) := by
  unfold execRestartTakesEffect
  split
  · exact leads_next.2 (K.leaveHeld (K.resetLow s hi))
  · simpa using hi

theorem startUpReading (K : StepInvariant I) {s : State} (hi : I s) (celsius : Int) : Leads I (execStartUpReading celsius s) := by
  unfold execStartUpReading
  split
  · exact leads_next.2 (K.settle _ (K.calTrigger (K.compareReading (K.setMaint hi) _) .long))
  · simpa using hi

/-! Frames from a processor -/

theorem msg (K : StepInvariant I) {s : State} (hi : I s) (p : Port) (seq ackSeq : Byte) (v : Bool) (body : List Byte) :
    Leads I (execMsg p seq ackSeq v body s) := by
  have acked : I (s.takeAck p ackSeq v) := K.takeAck hi p ackSeq v
  unfold execMsg
  split
  · simpa using hi
  split
  · exact leads_next.2 (K.takeBadFrame hi p)
  simp only
  split
  · exact leads_next.2 (K.finish acked)
  next hr =>
    split
    · exact leads_fault
    · next h => exact leads_next.2 (K.finish (K.takeMessage acked (linkActive_of_receives hr) h))

theorem ack (K : StepInvariant I) {s : State} (hi : I s) (p : Port) (seq ackSeq : Byte) (v : Bool) :
    Leads I (execAck p seq ackSeq v s) := by
  have acked : I (s.takeAck p ackSeq v) := K.takeAck hi p ackSeq v
  unfold execAck
  split
  · simpa using hi
  · refine leads_next.2 (K.finish ?_)
    split
    · exact K.takeAckSeq acked p seq
    · exact acked

theorem replayReq (K : StepInvariant I) {s : State} (hi : I s) (p : Port) (number : Byte) :
    Leads I (execReplayReq p number s) := by
  unfold execReplayReq
  split
  · simpa using hi
  · split
    · exact leads_next.2 (K.finish (K.rewind hi p number))
    · exact leads_next.2 (K.finish (K.linkDown s p _ hi))

theorem train (K : StepInvariant I) {s : State} (hi : I s) (p : Port) (revision : Byte) :
    Leads I (execTrain p revision s) := by
  unfold execTrain
  split
  · simpa using hi
  split
  case h_1 hl | h_2 hl | h_3 hl | h_4 hl =>
    exact leads_next.2 (K.becomePending s p revision hi (by rw [hl]; exact nofun))
  case h_5 => exact leads_next.2 (K.settle _ (K.wake hi p revision))
  case h_6 | h_7 | h_8 => exact leads_next.2 (K.finish (K.trainNow hi p revision))
  case h_9 | h_10 | h_11 =>
    exact leads_next.2 (K.finish (K.trainNow (K.drain (K.linkDown s p _ hi)) p revision))
  case h_12 => simpa using hi

theorem linkDownFrame (K : StepInvariant I) {s : State} (hi : I s) (p : Port) (reason : Byte) :
    Leads I (execLinkDownFrame p reason s) := by
  unfold execLinkDownFrame
  split
  · simpa using hi
  · exact leads_next.2 (K.finish (K.linkDown s p _ hi))

theorem requestArrives (K : StepInvariant I) {s : State} (hi : I s) (p : Port) (tag : Byte) (block : BitVec 32)
    (r : MgmtRequest) : Leads I (s.requestArrives p tag block r) := by
  unfold State.requestArrives
  split
  · simpa using hi
  · next hr =>
    split
    · exact leads_fault
    · next h => exact leads_next.2 (K.finish (K.acceptMessage s p _ _ _ hi (linkActive_of_receives hr) h))

/-! Frames to a processor and the link timers -/

theorem replayRequestTimerExpiry (K : StepInvariant I) {s : State} (hi : I s) (p : Port) :
    Leads I (execReplayRequestTimerExpiry p s) := by
  unfold execReplayRequestTimerExpiry
  split
  · simpa using hi
  · exact leads_next.2 (K.finish (K.repeatReplayReq (K.at_ hi _) p))

theorem acknowledgementTimerExpiry (K : StepInvariant I) {s : State} (hi : I s) (p : Port) :
    Leads I (execAcknowledgementTimerExpiry p s) := by
  unfold execAcknowledgementTimerExpiry
  split
  · simpa using hi
  · exact leads_next.2 (K.sendAck _ p (K.at_ hi _))

theorem replayTimerExpiry (K : StepInvariant I) {s : State} (hi : I s) (p : Port) : Leads I (execReplayTimerExpiry p s) := by
  unfold execReplayTimerExpiry
  split
  · simpa using hi
  · exact leads_next.2 (K.finish (K.replayAll (K.at_ hi _) p))

theorem outgoingArbiterTake (K : StepInvariant I) {s : State} (hi : I s) (p : Port) :
    Leads I (execOutgoingArbiterTake p s) := by
  unfold execOutgoingArbiterTake
  split
  · next h => exact leads_next.2 (K.settle _ (K.arbiterTake s p hi h))
  · simpa using hi

theorem frameResend (K : StepInvariant I) {s : State} (hi : I s) (p : Port) : Leads I (execFrameResend p s) := by
  unfold execFrameResend
  split
  · simpa using hi
  · split
    · simpa using hi
    · exact leads_next.2 (K.sendAgain hi p _)

/-! Openings, closes, refreshes -/

theorem openingAllowed_of_moment {s : State} (h : s.openingMoment = true) : s.openingAllowed = true := by
  simp only [State.openingMoment, Bool.and_eq_true] at h
  exact h.1.1.1

theorem openingGrant (K : StepInvariant I) {s : State} (hi : I s) : Leads I (execOpeningGrant s) := by
  unfold execOpeningGrant
  split
  · split
    · next h => exact leads_next.2 (K.settle _ (K.grantOpening s _ _ hi (openingAllowed_of_moment h)))
    · simpa using hi
  · simpa using hi

theorem openDelayComplete (K : StepInvariant I) {s : State} (hi : I s) (b : Fin 16) :
    Leads I (execOpenDelayComplete b s) := by
  unfold execOpenDelayComplete
  split
  · simpa using hi
  · exact leads_next.2 (K.settle _ (K.setBank (K.at_ hi _) id))

theorem minimumOpenComplete (K : StepInvariant I) {s : State} (hi : I s) (b : Fin 16) :
    Leads I (execMinimumOpenComplete b s) := by
  unfold execMinimumOpenComplete
  split
  · simpa using hi
  · exact leads_next.2 (K.setBank (K.at_ hi _) id)

theorem turnaroundComplete (K : StepInvariant I) {s : State} (hi : I s) : Leads I (execTurnaroundComplete s) := by
  unfold execTurnaroundComplete
  split
  · simpa using hi
  · exact leads_next.2 (K.minimumPasses hi _ _)

theorem windowSlotExpiry (K : StepInvariant I) {s : State} (hi : I s) : Leads I (execWindowSlotExpiry s) := by
  unfold execWindowSlotExpiry
  split
  · simpa using hi
  · next h => exact leads_next.2 (K.at_ (K.windowSlot s _ _ hi h) _)

theorem closeBegin (K : StepInvariant I) {s : State} (hi : I s) (b : Fin 16) : Leads I (execCloseBegin b s) := by
  unfold execCloseBegin
  split
  · exact leads_next.2 (K.settle _ (K.setBank hi id))
  · simpa using hi

theorem bankRange_closed {r : Bank} (h : BankRange r) : BankRange r.closed := by
  obtain ⟨debt, corrected, -, pos⟩ := h
  exact ⟨debt, corrected, Nat.zero_le _, pos⟩

theorem closeComplete (K : StepInvariant I) {s : State} (hi : I s) (b : Fin 16) : Leads I (execCloseComplete b s) := by
  unfold execCloseComplete
  split
  · simpa using hi
  · exact leads_next.2 (K.settle _ (K.settleRunDown _ (K.setBank (K.at_ hi _) bankRange_closed)))

theorem refreshComplete (K : StepInvariant I) {s : State} (hi : I s) (b : Fin 16) : Leads I (execRefreshComplete b s) := by
  unfold execRefreshComplete
  split
  · simpa using hi
  · refine leads_next.2 (K.settle _ (K.setBank (K.at_ hi _) ?_))
    rintro ⟨debt, rest⟩
    exact ⟨Nat.le_trans (Nat.sub_le _ _) debt, rest⟩

theorem idleCloseExpiry (K : StepInvariant I) {s : State} (hi : I s) (b : Fin 16) : Leads I (execIdleCloseExpiry b s) := by
  unfold execIdleCloseExpiry
  split
  · simpa using hi
  · exact leads_next.2 (K.setBank (K.at_ hi _) id)

/-! The column path -/

theorem firstAccessGrant (K : StepInvariant I) {s : State} (hi : I s) : Leads I (execFirstAccessGrant s) := by
  unfold execFirstAccessGrant
  split
  · next h =>
    split
    · exact leads_next.2 (K.settle _ (K.firstAccess s _ _ hi h))
    · simpa using hi
  · simpa using hi

theorem writeBackGrant (K : StepInvariant I) {s : State} (hi : I s) : Leads I (execWriteBackGrant s) := by
  unfold execWriteBackGrant
  split
  · next h =>
    split
    · exact leads_next.2 (K.writeBack s _ _ hi h)
    · simpa using hi
  · simpa using hi

theorem readTransferEnd (K : StepInvariant I) {s : State} (hi : I s) : Leads I (execReadTransferEnd s) := by
  unfold execReadTransferEnd
  split
  · next h =>
    split
    · exact leads_next.2 (K.finish (K.readEnds s _ hi h))
    · simpa using hi
  · simpa using hi

theorem writeTransferEnd (K : StepInvariant I) {s : State} (hi : I s) : Leads I (execWriteTransferEnd s) := by
  unfold execWriteTransferEnd
  split
  · next h =>
    split
    · exact leads_next.2 (K.finish (K.writeEnds s _ hi h))
    · simpa using hi
  · simpa using hi

/-! Maintenance -/

theorem intervalExpiry (K : StepInvariant I) {s : State} (hi : I s) (b : Fin 16) : Leads I (execIntervalExpiry b s) := by
  unfold execIntervalExpiry
  split
  · simpa using hi
  · exact leads_next.2 (K.intervalExpires (K.at_ hi _) b)

theorem calibrationTimerExpiry (K : StepInvariant I) {s : State} (hi : I s) : Leads I (execCalibrationTimerExpiry s) := by
  unfold execCalibrationTimerExpiry
  split
  · simpa using hi
  · exact leads_next.2 (K.settle _ (K.calTrigger (K.setMaint (K.at_ hi _)) .short))

theorem calibrationRunBegin (K : StepInvariant I) {s : State} (hi : I s) : Leads I (execCalibrationRunBegin s) := by
  unfold execCalibrationRunBegin
  split
  · split
    · exact leads_next.2 (K.calRun _ _ (K.setMaint (m := { s.maint with
        cal := .running _, calTemp := s.maint.lastTemp, calTimerDue := some (s.now + calibrationPeriod) }) hi))
    · simpa using hi
  · simpa using hi

theorem calibrationRunComplete (K : StepInvariant I) {s : State} (hi : I s) : Leads I (execCalibrationRunComplete s) := by
  unfold execCalibrationRunComplete
  split
  · simpa using hi
  · exact leads_next.2 (K.settle _ (K.setMaint (K.calRun _ none (K.at_ hi _))))

theorem stepTimerExpiry (K : StepInvariant I) {s : State} (hi : I s) : Leads I (execStepTimerExpiry s) := by
  unfold execStepTimerExpiry
  split
  · simpa using hi
  · exact leads_next.2 (K.settle _ (K.stepFallsDue _ (K.stepTimer _ _ _ (K.at_ hi _))))

/-! Power -/

theorem napIdleTimerExpiry (K : StepInvariant I) {s : State} (hi : I s) : Leads I (execNapIdleTimerExpiry s) := by
  unfold execNapIdleTimerExpiry
  split
  · simpa using hi
  · exact leads_next.2 (K.settle _ (K.setPower (K.at_ hi _)))

theorem napEntry (K : StepInvariant I) {s : State} (hi : I s) : Leads I (execNapEntry s) := by
  unfold execNapEntry
  split
  · exact leads_next.2 (K.power s _ hi (.inr (Nat.min_le_left _ _)))
  · simpa using hi

theorem napExitDelayComplete (K : StepInvariant I) {s : State} (hi : I s) : Leads I (execNapExitDelayComplete s) := by
  unfold execNapExitDelayComplete
  split
  · simpa using hi
  · exact leads_next.2 (K.setPower (K.at_ hi _))

theorem timeBaseTick (K : StepInvariant I) {s : State} (hi : I s) : Leads I (execTimeBaseTick s) := by
  unfold execTimeBaseTick
  split
  · simpa using hi
  · exact leads_next.2 (K.setPower (K.at_ hi _))

theorem startupEnd (K : StepInvariant I) {s : State} (hi : I s) : Leads I (execStartupEnd s) := by
  unfold execStartupEnd
  split
  · exact leads_next.2 (K.settle _ (K.answerBoth (K.startIntervals (K.becomeActive hi))))
  · simpa using hi

theorem enteringBegin (K : StepInvariant I) {s : State} (hi : I s) : Leads I (execEnteringBegin s) := by
  unfold execEnteringBegin
  split
  · exact leads_next.2 (K.raiseBoth (K.stepTimer _ none false (K.setMaint (m := { s.maint with calTimerDue := none })
      (K.setPower (w := s.enteringPower) hi))) _)
  · simpa using hi

theorem retainEntry (K : StepInvariant I) {s : State} (hi : I s) : Leads I (execRetainEntry s) := by
  unfold execRetainEntry
  split
  · exact leads_next.2 (K.sleep _ (K.setPower (w := { s.power with state := .retain }) hi))
  · simpa using hi

theorem wakingEnd (K : StepInvariant I) {s : State} (hi : I s) : Leads I (execWakingEnd s) := by
  unfold execWakingEnd
  split
  · exact leads_next.2 (K.settle _ (K.answerBoth (K.becomeActive hi)))
  · simpa using hi

/-! Every command -/

theorem exec (K : StepInvariant I) {s : State} (hi : I s) (c : Instr) : Leads I (Machine.exec c s) := by
  cases c with
  | powerOn high => exact leads_next.2 (K.powerUp s high hi)
  | powerOnResetEnd high => exact K.powerOnResetEnd hi high
  | pinResetAssert => exact K.pinResetAssert hi
  | resetRelease high => exact K.resetRelease hi high
  | cellFault block => exact leads_next.2 (K.setCondition s _ _ hi)
  | temperatureReading celsius => exact leads_next.2 (K.settle _ (K.takeReading hi _))
  | startUpReading celsius => exact K.startUpReading hi celsius
  | msg p seq ackSeq v body => exact K.msg hi p seq ackSeq v body
  | ack p seq ackSeq v => exact K.ack hi p seq ackSeq v
  | replayReq p number => exact K.replayReq hi p number
  | train p revision => exact K.train hi p revision
  | linkDownFrame p reason => exact K.linkDownFrame hi p reason
  | badFrame p => exact leads_next.2 (K.takeBadFrame hi p)
  | replayRequestTimerExpiry p => exact K.replayRequestTimerExpiry hi p
  | acknowledgementTimerExpiry p => exact K.acknowledgementTimerExpiry hi p
  | replayTimerExpiry p => exact K.replayTimerExpiry hi p
  | outgoingArbiterTake p => exact K.outgoingArbiterTake hi p
  | frameResend p => exact K.frameResend hi p
  | openingGrant => exact K.openingGrant hi
  | openDelayComplete b => exact K.openDelayComplete hi b
  | minimumOpenComplete b => exact K.minimumOpenComplete hi b
  | readToCloseComplete b => exact leads_next.2 (K.minimumPasses hi _ _)
  | writeRecoveryComplete b => exact leads_next.2 (K.minimumPasses hi _ _)
  | turnaroundComplete => exact K.turnaroundComplete hi
  | closeBegin b => exact K.closeBegin hi b
  | closeComplete b => exact K.closeComplete hi b
  | refreshComplete b => exact K.refreshComplete hi b
  | firstAccessGrant => exact K.firstAccessGrant hi
  | writeBackGrant => exact K.writeBackGrant hi
  | readTransferEnd => exact K.readTransferEnd hi
  | writeTransferEnd => exact K.writeTransferEnd hi
  | windowSlotExpiry => exact K.windowSlotExpiry hi
  | spacingComplete => exact leads_next.2 (K.minimumPasses hi _ _)
  | idleCloseExpiry b => exact K.idleCloseExpiry hi b
  | intervalExpiry b => exact K.intervalExpiry hi b
  | calibrationTimerExpiry => exact K.calibrationTimerExpiry hi
  | calibrationRunBegin => exact K.calibrationRunBegin hi
  | calibrationRunComplete => exact K.calibrationRunComplete hi
  | stepTimerExpiry => exact K.stepTimerExpiry hi
  | napIdleTimerExpiry => exact K.napIdleTimerExpiry hi
  | napEntry => exact K.napEntry hi
  | napExitDelayComplete => exact K.napExitDelayComplete hi
  | timeBaseTick => exact K.timeBaseTick hi
  | startupEnd => exact K.startupEnd hi
  | enteringBegin => exact K.enteringBegin hi
  | retainEntry => exact K.retainEntry hi
  | wakingEnd => exact K.wakingEnd hi
  | restartTakesEffect => exact K.restartTakesEffect hi
  | configGet p tag | configSet p tag | status p tag | regionGet p tag | regionSet p tag | errorFetch p tag
  | errorClear p tag | fillStart p tag | fillAbort p tag | retainVote p tag | retainWithdraw p tag | calibrate p tag
  | restart p tag => exact K.requestArrives hi p tag _ _

/-- The property holds of every next state of a state that has it. -/
theorem step (K : StepInvariant I) {s t : State} (hi : I s) (h : Machine.step s = .next t) : I t := by
  unfold Machine.step at h
  split at h
  · exact K.exec (K.queue s _ hi) _ t h
  · cases h
    exact K.later s _ hi (Nat.le_succ _)

end StepInvariant

end Sys2Proof.Machine.Steps
end

section
/-! The invariants that speak of one record each: the opening records, the banks' and the part's counts, the link records, the
Error Record Table, the canonical forms. Every operation keeps them all (`Keeps`). -/

namespace Sys2Proof.Machine.Steps

/-! ### Link records -/

/-- A link record that is not ACTIVE has its credits in range. -/
def IdleSound (l : Link) : Prop := l.state ≠ .active → l.creditsInRange

/-- A link record's ranges, and its credits where it is not ACTIVE, are kept. -/
def LinkKept (l l' : Link) : Prop := (l.inRange → l'.inRange) ∧ (IdleSound l → IdleSound l')

theorem LinkKept.refl (l : Link) : LinkKept l l := ⟨id, id⟩

theorem LinkKept.trans {l l' l'' : Link} (h : LinkKept l l') (k : LinkKept l' l'') : LinkKept l l'' :=
  ⟨k.1 ∘ h.1, k.2 ∘ h.2⟩

theorem inRange_cleared : Link.cleared.inRange := by
  refine ⟨Nat.zero_le _, Nat.zero_le _, Nat.zero_le _, Nat.zero_le _, Nat.zero_le _, fun i x h => ?_⟩
  simp [Link.cleared] at h

theorem creditsInRange_cleared : Link.cleared.creditsInRange := ⟨Nat.zero_le _, Nat.zero_le _⟩

theorem linkKept_cleared (l : Link) : LinkKept l Link.cleared := ⟨fun _ => inRange_cleared, fun _ _ => creditsInRange_cleared⟩

theorem linkKept_sleep (l : Link) : LinkKept l { Link.cleared with state := .sleep } :=
  ⟨fun _ => inRange_cleared, fun _ _ => creditsInRange_cleared⟩

theorem linkKept_pending (l : Link) (revision : Option Byte) (h : l.state ≠ .active) :
    LinkKept l { l with state := .pending, pendingRevision := revision } := ⟨id, fun k _ => k h⟩

theorem linkKept_sessionStart (l : Link) (mem mgmt : Nat) : LinkKept l (sessionStart mem mgmt) :=
  ⟨fun _ => inRange_cleared, fun _ h => absurd rfl h⟩

theorem linkKept_quiet {l l' : Link} (h : QuietLink l l') : LinkKept l l' := by
  obtain ⟨_, _, unacked, _, _, _, retry, rfl, hu, hr⟩ := h
  refine ⟨fun ⟨buffer, control, owed, tries, sent, notices⟩ => ⟨buffer, control, ?_, ?_, sent, notices⟩, id⟩
  · simp only; omega
  · simp only; omega

theorem linkKept_headerBuilt (l : Link) : LinkKept l l.headerBuilt := by
  unfold Link.headerBuilt
  simp only
  split
  · refine ⟨fun ⟨buffer, control, _, rest⟩ => ⟨buffer, control, Nat.zero_le _, rest⟩, fun h k => ?_⟩
    exact h k
  · exact ⟨fun ⟨buffer, control, _, rest⟩ => ⟨buffer, control, Nat.zero_le _, rest⟩, id⟩

theorem headerBuilt_buffer (l : Link) : l.headerBuilt.buffer = l.buffer := by
  unfold Link.headerBuilt
  simp only
  split <;> rfl

theorem linkKept_sent (l : Link) (next : Byte) (f : BufferedFrame) (replayDue : Option Time) (h : l.buffer.length < 32) :
    LinkKept l { l.headerBuilt with
      next := next, sentCount := min 128 (l.sentCount + 1), buffer := l.buffer ++ [f], replayDue := replayDue } := by
  refine (linkKept_headerBuilt l).trans
    ⟨fun ⟨_, control, owed, tries, _, notices⟩ => ⟨?_, control, owed, tries, Nat.min_le_left _ _, notices⟩, id⟩
  simp only [List.length_append, List.length_singleton]
  omega

theorem alsoSince_take {slot : Option NoticeSlot} (h : ∀ x, slot = some x → x.alsoSince ≤ 255) (n : Notice) :
    (NoticeSlot.take slot n).alsoSince ≤ 255 := by
  cases slot with
  | none => exact Nat.zero_le _
  | some x => exact Nat.min_le_left _ _

theorem linkKept_notices {l : Link} {i : Fin 6} {slot : Option NoticeSlot}
    (h : l.inRange → ∀ x, slot = some x → x.alsoSince ≤ 255) :
    LinkKept l { l with notices := l.notices.set i slot } := by
  refine ⟨fun k => ?_, id⟩
  have room := h k
  obtain ⟨buffer, control, owed, tries, sent, notices⟩ := k
  refine ⟨buffer, control, owed, tries, sent, fun j x hx => ?_⟩
  by_cases e : j = i
  · subst e
    simp at hx
    exact room x hx
  · have ne : i.val ≠ j.val := fun v => e (Fin.ext v.symm)
    simp [ne] at hx
    exact notices j x hx

theorem linkKept_startAckTimer (l : Link) (now : Time) : LinkKept l (l.startAckTimer now) := ⟨id, id⟩

theorem linkKept_credit {l : Link} (h : l.state = .active) (memOut memPend mgmtOut mgmtPend : Nat) :
    LinkKept l { l with memOut := memOut, memPend := memPend, mgmtOut := mgmtOut, mgmtPend := mgmtPend } :=
  ⟨id, fun _ k => absurd h k⟩

theorem linkKept_accepting (r : PortRec) (now : Time) (cls : Option RequestClass) :
    LinkKept r.link (r.accepting now cls).link := by
  have taken : ∀ (c : Prop) [Decidable c] (n : Nat), (if c then n - 1 else n) ≤ n := fun c _ n => by split <;> omega
  have mem := taken (cls = some .memory) r.link.memOut
  have mgmt := taken (cls = some .management) r.link.mgmtOut
  have sent : ∀ (c : Prop) [Decidable c] (n : Nat), (if c then n else 0) ≤ n := fun c _ n => by split <;> omega
  have memSent := sent (r.link.control.length < 12) r.link.memPend
  have mgmtSent := sent (r.link.control.length < 12) r.link.mgmtPend
  unfold PortRec.accepting
  simp only
  split
  · next few =>
    refine ⟨fun ⟨buffer, control, _, _, sent, notices⟩ =>
      ⟨buffer, control, by simp only; omega, Nat.zero_le _, sent, notices⟩, fun h k => ?_⟩
    obtain ⟨h1, h2⟩ := h k
    exact ⟨by simp only; omega, by simp only; omega⟩
  · refine ⟨fun ⟨buffer, control, _, _, sent, notices⟩ => ⟨buffer, control, Nat.zero_le _, Nat.zero_le _, sent, notices⟩,
      fun h k => ?_⟩
    obtain ⟨h1, h2⟩ := h k
    exact ⟨by simp only; omega, by simp only; omega⟩

/-! ### The Error Record Table -/

/-- The overflow count and the hit counts are in range (R118). -/
def ErrorCounts (t : ErrorTable) : Prop := t.overflow ≤ 65535 ∧ ∀ r ∈ t.records, 1 ≤ r.hits ∧ r.hits ≤ 65535

/-- The records are in order (R118, R120). -/
def ErrorOrder (t : ErrorTable) : Prop :=
  t.records.length ≤ 16 ∧ t.records.Pairwise (fun r q => r.block ≠ q.block ∧ r.number ≠ q.number) ∧
    (∀ r ∈ t.records, r.number < 65536) ∧ t.nextNumber < 65536 ∧ carriesNumber t.records t.nextNumber = false

def ErrorsKept (t t' : ErrorTable) : Prop := (ErrorCounts t → ErrorCounts t') ∧ (ErrorOrder t → ErrorOrder t')

theorem carriesNumber_eq_false {records : List ErrorRecord} {n : Nat} :
    carriesNumber records n = false ↔ ∀ r ∈ records, r.number ≠ n := by
  simp [carriesNumber]

/-- The records are changed one by one, each keeping block and number, its hit count in range. -/
theorem errorsKept_map {t : ErrorTable} {g : ErrorRecord → ErrorRecord} (block : ∀ r, (g r).block = r.block)
    (number : ∀ r, (g r).number = r.number) (hits : ∀ r, 1 ≤ r.hits ∧ r.hits ≤ 65535 → 1 ≤ (g r).hits ∧ (g r).hits ≤ 65535) :
    ErrorsKept t { t with records := t.records.map g } := by
  constructor
  · rintro ⟨overflow, counts⟩
    refine ⟨overflow, fun r hr => ?_⟩
    obtain ⟨q, hq, rfl⟩ := List.mem_map.1 hr
    exact hits q (counts q hq)
  · rintro ⟨length, distinct, numbers, next, free⟩
    refine ⟨by simpa using length, ?_, fun r hr => ?_, next, ?_⟩
    · simpa [List.pairwise_map, block, number] using distinct
    · obtain ⟨q, hq, rfl⟩ := List.mem_map.1 hr
      rw [number]
      exact numbers q hq
    · rw [carriesNumber_eq_false] at free ⊢
      intro r hr
      obtain ⟨q, hq, rfl⟩ := List.mem_map.1 hr
      rw [number]
      exact free q hq

theorem errorsKept_filter (t : ErrorTable) (keep : ErrorRecord → Bool) :
    ErrorsKept t { t with records := t.records.filter keep } := by
  constructor
  · rintro ⟨overflow, counts⟩
    exact ⟨overflow, fun r hr => counts r (List.mem_filter.1 hr).1⟩
  · rintro ⟨length, distinct, numbers, next, free⟩
    refine ⟨(List.length_filter_le _ _).trans length, distinct.filter _, fun r hr => numbers r (List.mem_filter.1 hr).1, next,
      carriesNumber_eq_false.2 fun r hr => carriesNumber_eq_false.1 free r (List.mem_filter.1 hr).1⟩

theorem errorsKept_overflow (t : ErrorTable) {n : Nat} (h : n ≤ 65535) : ErrorsKept t { t with overflow := n } :=
  ⟨fun ⟨_, counts⟩ => ⟨h, counts⟩, id⟩

/-- The search goes up from `n` by some number of steps, each past a number in use; it stops at a free one, or with its fuel
spent. -/
theorem freeNumberFrom_spec (records : List ErrorRecord) (fuel m : Nat) : ∃ j ≤ fuel,
    freeNumberFrom records fuel (m % 65536) = (m + j) % 65536 ∧
      (∀ i < j, ∃ r ∈ records, r.number = (m + i) % 65536) ∧
      (j < fuel → ∀ r ∈ records, r.number ≠ (m + j) % 65536) := by
  induction fuel generalizing m with
  | zero => exact ⟨0, Nat.le_refl _, rfl, fun i h => absurd h (Nat.not_lt_zero i), fun h => absurd h (Nat.lt_irrefl 0)⟩
  | succ fuel ih =>
    unfold freeNumberFrom
    by_cases used : carriesNumber records (m % 65536) = true
    · have next : nextNumberAfter (m % 65536) = (m + 1) % 65536 := by
        unfold nextNumberAfter
        omega
      obtain ⟨j, hj, found, passed, free⟩ := ih (m + 1)
      refine ⟨j + 1, by omega, ?_, fun i hi => ?_, fun h => ?_⟩
      · rw [if_pos used, next, found]
        congr 1
        omega
      · cases i with
        | zero => simpa [carriesNumber] using used
        | succ i => simpa [Nat.add_assoc, Nat.add_comm 1] using passed i (by omega)
      · simpa [Nat.add_assoc, Nat.add_comm 1] using free (by omega)
    · refine ⟨0, Nat.zero_le _, by rw [if_neg used]; rfl, fun i h => absurd h (Nat.not_lt_zero i), fun _ => ?_⟩
      exact carriesNumber_eq_false.1 (Bool.eq_false_of_not_eq_true used)

/-- Among 17 numbers that follow one another there is one that none of 16 records carries, so the search stops at it. -/
theorem freeNumberFrom_free {records : List ErrorRecord} (few : records.length ≤ 16) (m : Nat) : ∃ j,
    freeNumberFrom records 17 (m % 65536) = (m + j) % 65536 ∧
      (∀ i < j, ∃ r ∈ records, r.number = (m + i) % 65536) ∧ ∀ r ∈ records, r.number ≠ (m + j) % 65536 := by
  obtain ⟨j, hj, found, passed, free⟩ := freeNumberFrom_spec records 17 m
  refine ⟨j, found, passed, free (Nat.lt_of_le_of_ne hj ?_)⟩
  rintro rfl
  have sub : (List.range 17).map (fun i => (m + i) % 65536) ⊆ records.map (·.number) := by
    intro n hn
    obtain ⟨i, hi, rfl⟩ := List.mem_map.1 hn
    obtain ⟨r, hr, e⟩ := passed i (List.mem_range.1 hi)
    exact List.mem_map.2 ⟨r, hr, e⟩
  have distinct : ((List.range 17).map (fun i => (m + i) % 65536)).Nodup := by
    rw [List.Nodup, List.pairwise_map]
    refine List.Pairwise.imp_of_mem (fun ha hb lt => ?_) List.pairwise_lt_range
    rw [List.mem_range] at ha hb
    omega
  have := (List.subperm_of_subset distinct sub).length_le
  simp only [List.length_map, List.length_range] at this
  omega

theorem errorsKept_create {t : ErrorTable} {block : Nat} (source : Source) (time : BitVec 32)
    (unnamed : t.naming block = none) (room : t.records.length < 16) : ErrorsKept t (t.create block source time) := by
  constructor
  · rintro ⟨overflow, counts⟩
    refine ⟨overflow, fun r hr => ?_⟩
    rcases List.mem_append.1 hr with hr | hr
    · exact counts r hr
    · rw [List.mem_singleton.1 hr]
      exact ⟨Nat.le_refl _, by simp⟩
  · rintro ⟨length, distinct, numbers, next, free⟩
    have other : ∀ r ∈ t.records, r.block ≠ block := by
      intro r hr e
      have := List.find?_eq_none.1 unnamed r hr
      simp [e] at this
    have fits : (t.records ++ [(⟨t.nextNumber, block, source, time, 1, false⟩ : ErrorRecord)]).length ≤ 16 := by
      simp only [List.length_append, List.length_singleton]
      omega
    obtain ⟨j, found, -, unused⟩ := freeNumberFrom_free fits (t.nextNumber + 1)
    have stop : (t.create block source time).nextNumber = (t.nextNumber + 1 + j) % 65536 := found
    refine ⟨fits, ?_, ?_, ?_, ?_⟩
    · refine List.pairwise_append.2 ⟨distinct, List.pairwise_singleton _ _, fun r hr q hq => ?_⟩
      rw [List.mem_singleton.1 hq]
      exact ⟨other r hr, carriesNumber_eq_false.1 free r hr⟩
    · intro r hr
      rcases List.mem_append.1 hr with hr | hr
      · exact numbers r hr
      · rw [List.mem_singleton.1 hr]
        exact next
    · rw [stop]
      omega
    · rw [carriesNumber_eq_false, stop]
      exact unused

/-! ### What every operation keeps -/

/-- The scrub cursor and the pass count are in range (R105). -/
def ScrubRange (c : Scrub) : Prop := c.cursor ≤ 4194303 ∧ c.passes ≤ 65535

/-- A fill's entries in flight are in range (R112). -/
def FillRange (fill : Option Fill) : Prop := ∀ f, fill = some f → f.inFlight ≤ 3

/-- Each of the invariants, where it held, holds. -/
structure Keeps (s t : State) : Prop where
  openings : s.openingsSpaced → t.openingsSpaced
  banks : s.banksInRange → t.banksInRange
  counters : s.countersInRange → t.countersInRange
  links : ∀ p, LinkKept (s.link p) (t.link p)
  records : s.recordsDistinct → t.recordsDistinct
  canonical : s.canonical → t.canonical

theorem Keeps.refl (s : State) : Keeps s s := ⟨id, id, id, fun _ => .refl _, id, id⟩

theorem Keeps.trans {s t u : State} (h : Keeps s t) (k : Keeps t u) : Keeps s u :=
  ⟨k.openings ∘ h.openings, k.banks ∘ h.banks, k.counters ∘ h.counters, fun p => (h.links p).trans (k.links p),
    k.records ∘ h.records, k.canonical ∘ h.canonical⟩

/-- What each part of the state must keep; a part not named is as it was. -/
theorem Keeps.of {s t : State} (now : s.now ≤ t.now := by exact Nat.le_refl _)
    (window : t.window = s.window := by rfl) (spacing : t.spacing = s.spacing := by rfl)
    (banks : ∀ b, BankRange (s.bank b) → BankRange (t.bank b) := by exact fun _ h => h)
    (missed : t.maint.missed = s.maint.missed ∨ t.maint.missed ≤ 65535 := by exact .inl rfl)
    (scrub : ScrubRange s.scrub → ScrubRange t.scrub := by exact fun h => h)
    (errors : ErrorsKept s.errors t.errors := by exact ⟨fun h => h, fun h => h⟩)
    (naps : t.power.napCount = s.power.napCount ∨ t.power.napCount ≤ 4294967295 := by exact .inl rfl)
    (fill : FillRange s.fill → FillRange t.fill := by exact fun h => h)
    (links : ∀ p, LinkKept (s.link p) (t.link p) := by exact fun _ => .refl _)
    (contents : Sparse.Wf s.contents → Sparse.Wf t.contents := by exact fun h => h)
    (conditions : Sparse.Wf s.conditions → Sparse.Wf t.conditions := by exact fun h => h)
    (table : Sparse.Wf s.table → Sparse.Wf t.table := by exact fun h => h) : Keeps s t where
  openings h := by
    unfold State.openingsSpaced at h ⊢
    rw [window, spacing]
    obtain ⟨length, apart, recorded, past⟩ := h
    exact ⟨length, apart, recorded, fun u hu => (past u hu).trans now⟩
  banks h b := banks b (h b)
  counters h := by
    obtain ⟨h1, h2, h3, h4, h5, h6, h7⟩ := h
    obtain ⟨k2, k3⟩ := scrub ⟨h2, h3⟩
    obtain ⟨k4, k6⟩ := errors.1 ⟨h4, h6⟩
    exact ⟨missed.elim (fun e => e ▸ h1) id, k2, k3, k4, naps.elim (fun e => e ▸ h5) id, k6, fill h7⟩
  links := links
  records := errors.2
  canonical := fun ⟨h1, h2, h3⟩ => ⟨contents h1, conditions h2, table h3⟩

/-! Ports -/

theorem keeps_setPort (s : State) (p : Port) {r : PortRec} (h : LinkKept (s.link p) r.link) : Keeps s (s.setPort p r) := by
  cases p with
  | a => exact .of (links := fun q => by cases q; exacts [h, .refl _])
  | b => exact .of (links := fun q => by cases q; exacts [.refl _, h])

theorem keeps_setLink (s : State) (p : Port) {l : Link} (h : LinkKept (s.link p) l) : Keeps s (s.setLink p l) :=
  keeps_setPort s p h

theorem keeps_emit (s : State) (p : Port) (f : Frame) : Keeps s (s.emit p f) := keeps_setPort s p (.refl _)

theorem keeps_setVote (s : State) (p : Port) (v : Bool) : Keeps s (s.setVote p v) := keeps_setPort s p (.refl _)

theorem keeps_raiseNotice (s : State) (p : Port) (n : Notice) : Keeps s (s.raiseNotice p n) := by
  unfold State.raiseNotice
  split
  · refine keeps_setLink s p (linkKept_notices fun k x hx => ?_)
    cases hx
    exact alsoSince_take (fun x hx => k.2.2.2.2.2 _ x hx) n
  · exact .refl s

theorem keeps_raiseBoth (s : State) (n : Notice) : Keeps s (s.raiseBoth n) :=
  (keeps_raiseNotice s .a n).trans (keeps_raiseNotice _ .b n)

theorem keeps_removeVote (s : State) (p : Port) : Keeps s (s.removeVote p) := by
  unfold State.removeVote
  split
  · exact (keeps_setVote s p false).trans (keeps_raiseNotice _ _ _)
  · exact .refl s

theorem keeps_sendAck (s : State) (p : Port) : Keeps s (s.sendAck p) :=
  (keeps_setLink s p (linkKept_headerBuilt _)).trans (keeps_emit _ p _)

theorem keeps_sendMessage {s : State} {p : Port} (m : Message) (h : (s.link p).buffer.length < 32) :
    Keeps s (s.sendMessage p m) :=
  (keeps_setLink s p (linkKept_sent _ _ _ _ h)).trans (keeps_emit _ p _)

theorem keeps_returnCredit (s : State) (p : Port) (cls : RequestClass) : Keeps s (s.returnCredit p cls) := by
  unfold State.returnCredit
  split
  · next h =>
    have active : ((s.link p).startAckTimer s.now).state = .active := of_decide_eq_true h
    refine keeps_setLink s p ((linkKept_startAckTimer _ s.now).trans ?_)
    cases cls with
    | memory => exact linkKept_credit active _ _ _ _
    | management => exact linkKept_credit active _ _ _ _
  · exact .refl s

theorem keeps_acceptFrame (s : State) (p : Port) (cls : Option RequestClass) : Keeps s (s.acceptFrame p cls) := by
  rw [acceptFrame_eq]
  exact keeps_setPort s p (linkKept_accepting _ _ _)

theorem keeps_answerTrain (s : State) (p : Port) (revision : Byte) : Keeps s (s.answerTrain p revision) := by
  refine (keeps_setLink s p ?_).trans (keeps_emit _ p _)
  split
  · exact linkKept_sessionStart _ _ _
  · exact linkKept_cleared _

/-! The table -/

theorem keeps_setTable (s : State) {table : List (Nat × Entry)} (h : Sparse.Wf s.table → Sparse.Wf table) :
    Keeps s { s with table := table } := .of (table := h)

theorem keeps_setEntry (s : State) (slot : Nat) (e : Entry) : Keeps s (s.setEntry slot e) :=
  keeps_setTable s fun w => Sparse.wf_insert w slot e

theorem keeps_clearSlot (s : State) (slot : Nat) : Keeps s (s.clearSlot slot) :=
  keeps_setTable s fun w => Sparse.wf_erase w slot

theorem keeps_freeSlotOf (s : State) (slot : Nat) : Keeps s (s.freeSlotOf slot) := by
  unfold State.freeSlotOf
  split
  · exact .refl s
  · split
    · exact keeps_clearSlot s slot
    · exact (keeps_clearSlot s slot).trans (keeps_returnCredit _ _ _)

theorem keeps_barrierDone (s : State) (slot : Nat) (e : Entry) : Keeps s (s.barrierDone slot e) := by
  unfold State.barrierDone
  split
  · exact .refl s
  · split
    · exact keeps_freeSlotOf s slot
    · exact keeps_setPort s _ (.refl _)

theorem keeps_foldl {α : Type} {f : State → α → State} (h : ∀ s x, Keeps s (f s x)) (l : List α) (s : State) :
    Keeps s (l.foldl f s) := by
  induction l generalizing s with
  | nil => exact .refl s
  | cons x t ih => exact (h s x).trans (ih _)

theorem keeps_reevaluatePass (s : State) : Keeps s s.reevaluatePass :=
  (keeps_setTable s fun w => Sparse.wf_map w _).trans (keeps_foldl (fun s (x : Nat × Entry) => keeps_barrierDone s x.1 x.2) _ _)

theorem keeps_reevaluateFor (n : Nat) (s : State) : Keeps s (reevaluateFor n s) := by
  induction n generalizing s with
  | zero => exact keeps_reevaluatePass s
  | succ n ih =>
    unfold reevaluateFor
    split
    · exact (keeps_reevaluatePass s).trans (ih _)
    · exact keeps_reevaluatePass s

theorem keeps_reevaluate (s : State) : Keeps s s.reevaluate := keeps_reevaluateFor _ s

/-! Link-down -/

theorem wf_orphaned {table : List (Nat × Entry)} (w : Sparse.Wf table) (p : Port) :
    Sparse.Wf ((table.filter fun x => !x.2.droppedAtDown p).map fun x => (x.1, x.2.orphanedAtDown p)) :=
  Sparse.wf_map (Sparse.wf_filter w _) fun _ e => e.orphanedAtDown p

theorem keeps_orphanPort (s : State) (p : Port) : Keeps s (s.orphanPort p) := by
  unfold State.orphanPort
  simp only
  refine .trans (keeps_setPort s p ?_) (.trans (keeps_setTable _ ?_) (keeps_reevaluate _))
  · exact .refl _
  · exact fun w => wf_orphaned w p

theorem fillRange_map {fill : Option Fill} {g : Fill → Fill} (h : ∀ f, (g f).inFlight ≤ f.inFlight) (k : FillRange fill) :
    FillRange (fill.map g) := by
  intro f hf
  obtain ⟨f', hf', rfl⟩ := Option.map_eq_some_iff.1 hf
  exact (h f').trans (k f' hf')

theorem keeps_dropRequests (s : State) (p : Port) : Keeps s (s.dropRequests p) :=
  .of (fill := fillRange_map fun f => by split <;> exact Nat.le_refl _)

theorem keeps_linkDown (s : State) (p : Port) (why : DownReason) : Keeps s (s.linkDown p why) := by
  unfold State.linkDown
  split
  · refine .trans (.trans (.trans (.trans ?_ (keeps_setLink _ p (linkKept_cleared _))) (keeps_orphanPort _ p))
      (keeps_dropRequests _ p)) (keeps_removeVote _ p)
    split
    · exact keeps_emit s p _
    · exact .refl s
  · exact .refl s

theorem linkKept_control {l : Link} {control : List Message} (h : control.length ≤ 64) :
    LinkKept l { l with control := control } :=
  ⟨fun ⟨buffer, _, rest⟩ => ⟨buffer, h, rest⟩, id⟩

theorem keeps_placeControl (s : State) (p : Port) (m : Message) : Keeps s (s.placeControl p m) := by
  unfold State.placeControl
  split
  · simp only
    split
    · exact keeps_linkDown s p _
    · refine keeps_setLink s p (linkKept_control ?_)
      simp only [List.length_append, List.length_singleton]
      omega
  · exact .refl s

theorem keeps_replyAndLetGo (s : State) (p : Port) (m : Message) : Keeps s (s.replyAndLetGo p m) :=
  (keeps_placeControl s p m).trans (keeps_returnCredit _ p _)

theorem keeps_setMgmt (s : State) (mgmt : Management) : Keeps s { s with mgmt := mgmt } := .of

theorem keeps_noteRestart (s : State) (p : Port) (dropped : List BufferedFrame) : Keeps s (s.noteRestart p dropped) := by
  unfold State.noteRestart
  split
  · exact keeps_setMgmt _ _
  · exact .refl _

theorem keeps_ackProgress (s : State) (p : Port) (n : Nat) : Keeps s (s.ackProgress p n) := by
  refine .trans (keeps_setLink s p ?_) (keeps_noteRestart _ p _)
  refine ⟨fun ⟨buffer, control, owed, _, rest⟩ => ⟨?_, control, owed, Nat.zero_le _, rest⟩, id⟩
  simp only [List.length_drop]
  omega

/-! Admission, scrub steps, fills -/

theorem keeps_setPower (s : State) {w : Power} (h : w.napCount = s.power.napCount ∨ w.napCount ≤ 4294967295) :
    Keeps s { s with power := w } := .of (naps := h)

theorem keeps_endNap (s : State) : Keeps s s.endNap := by
  unfold State.endNap
  split
  · exact keeps_setPower s (.inl rfl)
  · exact .refl s

theorem keeps_takeAge (s : State) : Keeps s s.takeAge := .of

theorem keeps_place (s : State) (slot : Nat) (e : Entry) : Keeps s (s.place slot e) := by
  unfold State.place
  simp only
  split
  · exact (keeps_setEntry s slot e).trans (keeps_barrierDone _ _ _)
  · exact keeps_setEntry s slot e

theorem keeps_refuseMemory (s : State) (p : Port) (h : BodyHead) (why : Reason) : Keeps s (s.refuseMemory p h why) :=
  (keeps_placeControl s p _).trans (keeps_returnCredit _ p _)

theorem keeps_admission (s : State) (p : Port) (tag : Byte) (r : MemRequest) (slot : Nat) :
    Keeps s (s.admission p tag r slot) :=
  (((keeps_takeAge s).trans (keeps_place _ _ _)).trans (keeps_endNap _)).trans (keeps_removeVote _ p)

theorem keeps_intake {s t : State} {p : Port} {h : BodyHead} {r : MemRequest} (k : s.intake p h r = some t) : Keeps s t := by
  unfold State.intake at k
  split at k
  · cases k
    exact keeps_refuseMemory s p h _
  · obtain ⟨slot, _, rfl⟩ := Option.map_eq_some_iff.1 k
    exact keeps_admission s p h.tag r slot

theorem keeps_maintenanceAdmission (s : State) (kind : EntryKind) (first age : Nat) (data : List (List Byte)) (slot : Nat) :
    Keeps s (s.maintenanceAdmission kind first age data slot) :=
  (keeps_place s slot _).trans (keeps_endNap _)

theorem keeps_setScrub (s : State) {c : Scrub} (h : ScrubRange s.scrub → ScrubRange c) : Keeps s { s with scrub := c } :=
  .of (scrub := h)

theorem scrubRange_advance {c : Scrub} (h : ScrubRange c) : ScrubRange c.advance := by
  obtain ⟨cursor, passes⟩ := h
  rw [advance_eq]
  constructor
  · simp only; split <;> omega
  · simp only; split <;> omega

theorem keeps_takeStep (s : State) (slot : Nat) : Keeps s (s.takeStep slot) :=
  ((keeps_takeAge s).trans (keeps_maintenanceAdmission _ _ _ _ _ _)).trans (keeps_setScrub _ scrubRange_advance)

theorem keeps_takePendingStep (s : State) : Keeps s s.takePendingStep := by
  unfold State.takePendingStep
  split
  · split
    · exact (keeps_takeStep s _).trans (keeps_setScrub _ id)
    · exact .refl s
  · exact .refl s

theorem keeps_stepFallsDue (s : State) : Keeps s s.stepFallsDue := by
  unfold State.stepFallsDue
  split
  · exact keeps_takeStep s _
  · exact keeps_setScrub s id

theorem keeps_setFill (s : State) {fill : Option Fill} (h : FillRange s.fill → FillRange fill) :
    Keeps s { s with fill := fill } := .of (fill := h)

theorem fillRange_some {f : Fill} (h : f.inFlight ≤ 3) : FillRange (some f) := fun _ e => Option.some.inj e ▸ h

theorem keeps_createFillEntry (s : State) : Keeps s s.createFillEntry := by
  unfold State.createFillEntry
  split
  · exact .refl s
  · split
    · next f _ few =>
      split
      · exact .refl s
      · simp only [Bool.and_eq_true, decide_eq_true_eq] at few
        exact (keeps_maintenanceAdmission s _ _ _ _ _).trans (keeps_setFill _ fun _ => fillRange_some few.2)
    · exact .refl s

theorem keeps_createFillEntries (s : State) : Keeps s s.createFillEntries :=
  ((keeps_createFillEntry s).trans (keeps_createFillEntry _)).trans (keeps_createFillEntry _)

theorem keeps_removeFill (s : State) : Keeps s s.removeFill :=
  ((keeps_setFill s (fill := none) fun _ => nofun).trans (keeps_reevaluate _)).trans (keeps_takePendingStep _)

theorem keeps_fillEntryFreed (s : State) : Keeps s s.fillEntryFreed := by
  unfold State.fillEntryFreed
  split
  · exact keeps_reevaluate s
  · next f hf =>
    refine .trans (.trans (keeps_setFill s (fill := some { f with inFlight := f.inFlight - 1 }) fun k => ?_)
      (keeps_createFillEntries _)) ?_
    · exact fillRange_some ((Nat.sub_le _ _).trans (k f hf))
    · simp only
      split
      · exact keeps_reevaluate _
      · split
        · exact keeps_reevaluate _
        · split
          · split
            · exact keeps_removeFill _
            · exact (keeps_removeFill _).trans (keeps_replyAndLetGo _ _ _)
          · split
            · exact (keeps_removeFill _).trans (keeps_raiseNotice _ _ _)
            · exact keeps_reevaluate _

theorem keeps_entryDone (s : State) (slot : Nat) (e : Entry) : Keeps s (s.entryDone slot e) := by
  unfold State.entryDone
  split
  · split
    · exact (keeps_freeSlotOf s slot).trans (keeps_reevaluate _)
    · exact (keeps_setEntry s slot _).trans (keeps_setPort _ _ (.refl _))
  · simp only
    split
    · exact (keeps_clearSlot s slot).trans (keeps_fillEntryFreed _)
    · exact ((keeps_clearSlot s slot).trans (keeps_reevaluate _)).trans (keeps_takePendingStep _)

/-! Transfers -/

theorem keeps_setBank (s : State) (b : Fin 16) {r : Bank} (h : BankRange (s.bank b) → BankRange r) :
    Keeps s (s.setBank b r) := by
  refine .of (banks := fun c hc => ?_)
  by_cases e : c = b
  · subst e
    rw [bank_setBank_self]
    exact h hc
  · rw [bank_setBank_of_ne s b c r e]
    exact hc

theorem keeps_setBanks (s : State) {B : Vector Bank 16} (h : ∀ b : Fin 16, BankRange (s.bank b) → BankRange B[b]) :
    Keeps s { s with banks := B } := .of (banks := h)

theorem keeps_mapBanks (s : State) {f : Fin 16 → Bank → Bank} (h : ∀ b r, BankRange r → BankRange (f b r)) :
    Keeps s (s.mapBanks f) :=
  keeps_setBanks s fun b => by simpa [State.bank] using h b (s.bank b)

theorem keeps_setErrors (s : State) {errors : ErrorTable} (h : ErrorsKept s.errors errors) : Keeps s { s with errors := errors } :=
  .of (errors := h)

theorem keeps_takeReport (s : State) (source : Source) (block : Nat) : Keeps s (s.takeReport source block) := by
  unfold State.takeReport
  split
  · next r _ =>
    have counted : Keeps s { s with errors := { s.errors with
        records := s.errors.records.map fun x => if x.block = block then x.hit else x } } := by
      refine keeps_setErrors s (errorsKept_map (fun x => ?_) (fun x => ?_) fun x hx => ?_)
      · split <;> rfl
      · split <;> rfl
      · split
        · exact ⟨by simp only [ErrorRecord.hit]; omega, Nat.min_le_left _ _⟩
        · exact hx
    simp only
    split
    · exact counted.trans (keeps_raiseBoth _ _)
    · exact counted
  · next unnamed =>
    split
    · next room => exact (keeps_setErrors s (errorsKept_create _ _ unnamed room)).trans (keeps_raiseBoth _ _)
    · exact (keeps_setErrors s (errorsKept_overflow _ (Nat.min_le_left _ _))).trans (keeps_raiseBoth _ _)

theorem keeps_markRewritten (s : State) (blocks : List Nat) : Keeps s (s.markRewritten blocks) := by
  refine keeps_setErrors s (errorsKept_map (fun x => ?_) (fun x => ?_) fun x hx => ?_)
  · split <;> rfl
  · split <;> rfl
  · split <;> exact hx

theorem wf_writeBytes {contents : List Host.Cell} (w : Sparse.Wf contents) (block : Nat) (data : List Byte) :
    Sparse.Wf (writeBytes contents block data) := by
  unfold writeBytes
  induction List.range 32 generalizing contents with
  | nil => exact w
  | cons i t ih => exact ih (Sparse.wf_insert w _ _)

theorem keeps_setMemory (s : State) {contents : List Host.Cell} {conditions : List (Nat × Condition)}
    (h : Sparse.Wf s.contents → Sparse.Wf contents) (k : Sparse.Wf s.conditions → Sparse.Wf conditions) :
    Keeps s { s with contents := contents, conditions := conditions } := .of (contents := h) (conditions := k)

theorem keeps_writeBlocks (s : State) (writes : List (Nat × List Byte)) : Keeps s (s.writeBlocks writes) := by
  unfold State.writeBlocks State.writeBlock
  exact keeps_foldl (fun s w => keeps_setMemory s (fun h => wf_writeBytes h _ _) fun h => Sparse.wf_insert h _ _) writes s

theorem keeps_at (s : State) (due : Time) : Keeps s (s.at due) := .of (now := Nat.le_max_left _ _)

theorem keeps_setPath (s : State) (path : ColumnPath) : Keeps s { s with path := path } := .of

theorem keeps_freePath (s : State) (d : Direction) : Keeps s (s.freePath d) := keeps_setPath s _

theorem keeps_settleRunDown (s : State) : Keeps s s.settleRunDown := by
  unfold State.settleRunDown
  split
  · exact .of
  · exact .refl s

theorem keeps_entryRead (s : State) (slot : Nat) (e : Entry) (blocks : List ReadBlock) :
    Keeps s (s.entryRead slot e blocks) := by
  unfold State.entryRead
  simp only
  split
  · exact (keeps_foldl (fun s i => keeps_takeReport s _ _) _ s).trans (keeps_entryDone _ _ _)
  · exact (keeps_foldl (fun s i => keeps_takeReport s _ _) _ s).trans (keeps_setEntry _ _ _)

theorem keeps_countCorrected (s : State) (b : Fin 16) (n : Nat) : Keeps s (s.countCorrected b n) :=
  keeps_setBank s b fun ⟨debt, _, rest⟩ => ⟨debt, Nat.min_le_left _ _, rest⟩

theorem keeps_readEnds (s : State) (f : Flight) : Keeps s (s.readEnds f) := by
  have ended : Keeps s (((s.at f.due).freePath .read).setBank f.bank
      { ((s.at f.due).freePath .read).bank f.bank with lastReadEnd := some ((s.at f.due).freePath .read).now }) :=
    ((keeps_at s f.due).trans (keeps_freePath _ .read)).trans (keeps_setBank _ f.bank id)
  unfold State.readEnds
  simp only
  split
  · exact ended.trans (keeps_settleRunDown _)
  · split
    · exact ended.trans (keeps_countCorrected _ _ _)
    · exact (ended.trans (keeps_countCorrected _ _ _)).trans (keeps_entryRead _ _ _ _)

theorem keeps_writeEnds (s : State) (f : Flight) : Keeps s (s.writeEnds f) := by
  have written : Keeps s (((s.at f.due).writeBlocks f.writes).markRewritten (f.writes.map (·.1))) :=
    ((keeps_at s f.due).trans (keeps_writeBlocks _ _)).trans (keeps_markRewritten _ _)
  unfold State.writeEnds
  simp only
  generalize ((s.at f.due).writeBlocks f.writes).markRewritten (f.writes.map (·.1)) = w at written
  have ended : Keeps s ((w.freePath .write).setBank f.bank
      { (w.freePath .write).bank f.bank with lastWriteEnd := some (w.freePath .write).now }) :=
    (written.trans (keeps_freePath _ .write)).trans (keeps_setBank _ f.bank id)
  split
  · exact ended.trans (keeps_settleRunDown _)
  · split
    · exact ended
    · exact ended.trans (keeps_entryDone _ _ _)

/-! Management requests -/

theorem keeps_setStore (s : State) (c : Store) : Keeps s { s with store := c } := .of

theorem keeps_applyKey (s : State) (key : Nat) : Keeps s (s.applyKey key) := by
  unfold State.applyKey
  split
  · exact keeps_setPower s (.inl rfl)
  · split
    · exact keeps_setScrub s id
    · exact .refl s

theorem keeps_takeConfigGet (p : Port) (tag : Byte) (key : BitVec 32) (s : State) : Keeps s (takeConfigGet p tag key s) := by
  unfold takeConfigGet
  repeat' split
  all_goals exact keeps_replyAndLetGo s p _

theorem keeps_takeConfigSet (p : Port) (tag : Byte) (key value : BitVec 32) (s : State) :
    Keeps s (takeConfigSet p tag key value s) := by
  unfold takeConfigSet
  repeat' split
  case h_2 => exact ((keeps_setStore s _).trans (keeps_applyKey _ _)).trans (keeps_replyAndLetGo _ p _)
  all_goals exact keeps_replyAndLetGo s p _

theorem keeps_clearCounts (s : State) : Keeps s s.clearCounts := by
  refine .trans ?_ (keeps_mapBanks _ fun _ _ ⟨debt, _, rest⟩ => ⟨debt, Nat.zero_le _, rest⟩)
  exact .of (missed := .inr (Nat.zero_le _)) (naps := .inr (Nat.zero_le _))
    (errors := errorsKept_overflow _ (Nat.zero_le _))

theorem keeps_takeStatus (p : Port) (tag : Byte) (clear : Bool) (s : State) : Keeps s (takeStatus p tag clear s) := by
  refine .trans ?_ (keeps_replyAndLetGo _ p _)
  split
  · exact keeps_clearCounts s
  · exact .refl s

theorem keeps_answerSlot (s : State) (p : Port) (tag : Byte) (kind : Nat) (slot : Fin 8) :
    Keeps s (s.answerSlot p tag kind slot) := by
  unfold State.answerSlot
  split <;> exact keeps_replyAndLetGo s p _

theorem keeps_takeRegionGet (p : Port) (tag slot : Byte) (s : State) : Keeps s (takeRegionGet p tag slot s) := by
  unfold takeRegionGet
  split
  · exact keeps_replyAndLetGo s p _
  · split
    · exact keeps_answerSlot s p _ _ _
    · exact keeps_replyAndLetGo s p _

theorem keeps_setRegions (s : State) (regions : Vector (Option Region) 8) : Keeps s { s with regions := regions } := .of

theorem keeps_takeRegionSet (p : Port) (tag slot : Byte) (first count : BitVec 32) (enable a b : Byte) (s : State) :
    Keeps s (takeRegionSet p tag slot first count enable a b s) := by
  unfold takeRegionSet
  repeat' split
  case h_2 => exact (keeps_setRegions s _).trans (keeps_answerSlot _ p _ _ _)
  all_goals exact keeps_replyAndLetGo s p _

theorem keeps_takeErrorFetch (p : Port) (tag : Byte) (s : State) : Keeps s (takeErrorFetch p tag s) := by
  unfold takeErrorFetch
  repeat' split
  all_goals exact keeps_replyAndLetGo s p _

theorem keeps_takeErrorClear (p : Port) (tag : Byte) (number : BitVec 32) (s : State) :
    Keeps s (takeErrorClear p tag number s) := by
  unfold takeErrorClear
  split
  · exact keeps_replyAndLetGo s p _
  · split
    · exact (keeps_setErrors s (errorsKept_filter _ _)).trans (keeps_replyAndLetGo _ p _)
    · exact keeps_replyAndLetGo s p _

theorem keeps_acceptFill (s : State) (p : Port) (tag : Byte) (first count : BitVec 32) (pattern : BitVec 64) :
    Keeps s (s.acceptFill p tag first count pattern) := by
  refine .trans (.trans (.trans (.trans ?_ (keeps_createFillEntries _)) (keeps_reevaluate _)) (keeps_removeVote _ p))
    (keeps_replyAndLetGo _ p _)
  exact (keeps_takeAge s).trans (keeps_setFill _ fun _ => fillRange_some (Nat.zero_le _))

theorem keeps_takeFillStart (p : Port) (tag : Byte) (first count : BitVec 32) (pattern : BitVec 64) (s : State) :
    Keeps s (takeFillStart p tag first count pattern s) := by
  unfold takeFillStart
  repeat' split
  case isFalse.isFalse.isFalse.isFalse => exact keeps_acceptFill s p _ _ _ _
  all_goals exact keeps_replyAndLetGo s p _

theorem keeps_takeFillAbort (p : Port) (tag : Byte) (s : State) : Keeps s (takeFillAbort p tag s) := by
  unfold takeFillAbort
  split
  · exact keeps_replyAndLetGo s p _
  · split
    · exact keeps_replyAndLetGo s p _
    · next f hf =>
      split
      · exact keeps_replyAndLetGo s p _
      · exact keeps_setFill s fun k => fillRange_some (f := { f with aborting := true, abortReply := some (p, tag) }) (k f hf)

theorem keeps_takeRetainVote (p : Port) (tag : Byte) (s : State) : Keeps s (takeRetainVote p tag s) := by
  unfold takeRetainVote
  split
  · exact keeps_replyAndLetGo s p _
  · split
    · exact keeps_replyAndLetGo s p _
    · refine .trans ?_ (keeps_replyAndLetGo _ p _)
      split
      · exact .refl s
      · exact (keeps_setVote s p true).trans (keeps_raiseNotice _ _ _)

theorem keeps_takeRetainWithdraw (p : Port) (tag : Byte) (s : State) : Keeps s (takeRetainWithdraw p tag s) := by
  unfold takeRetainWithdraw
  split
  · exact keeps_replyAndLetGo s p _
  · exact (keeps_removeVote s p).trans (keeps_replyAndLetGo _ p _)

theorem keeps_setMaint (s : State) {m : Maintenance} (h : m.missed = s.maint.missed ∨ m.missed ≤ 65535) :
    Keeps s { s with maint := m } := .of (missed := h)

theorem keeps_calTrigger (s : State) (k : CalKind) : Keeps s (s.calTrigger k) := by
  have triggered : Keeps s { s with maint := s.maint.takeTrigger k } :=
    keeps_setMaint s (.inl (StepInvariant.missed_takeTrigger _ _))
  unfold State.calTrigger
  simp only
  split
  · exact .refl s
  · split
    · exact triggered.trans (keeps_endNap _)
    · exact triggered

theorem keeps_takeCalibrate (p : Port) (tag : Byte) (s : State) : Keeps s (takeCalibrate p tag s) := by
  unfold takeCalibrate
  split
  · exact keeps_replyAndLetGo s p _
  · exact (keeps_calTrigger s _).trans (keeps_replyAndLetGo _ p _)

theorem keeps_takeRestart (p : Port) (tag : Byte) (s : State) : Keeps s (takeRestart p tag s) := by
  unfold takeRestart
  split
  · exact keeps_replyAndLetGo s p _
  · split
    · exact keeps_replyAndLetGo s p _
    · exact (keeps_setMgmt s _).trans (keeps_replyAndLetGo _ p _)

theorem keeps_takeRequest (q : HeldRequest) (s : State) : Keeps s (takeRequest q s) := by
  unfold takeRequest
  split
  · exact keeps_takeConfigGet _ _ _ s
  · exact keeps_takeConfigSet _ _ _ _ s
  · exact keeps_takeStatus _ _ _ s
  · exact keeps_takeRegionGet _ _ _ s
  · exact keeps_takeRegionSet _ _ _ _ _ _ _ _ s
  · exact keeps_takeErrorFetch _ _ s
  · exact keeps_takeErrorClear _ _ _ s
  · exact keeps_takeFillStart _ _ _ _ _ s
  · exact keeps_takeFillAbort _ _ s
  · exact keeps_takeRetainVote _ _ s
  · exact keeps_takeRetainWithdraw _ _ s
  · exact keeps_takeCalibrate _ _ s
  · exact keeps_takeRestart _ _ s

/-! Messages -/

theorem keeps_route {s t : State} {p : Port} {h : BodyHead} {m : Parsed} (k : s.route p h m = some t) : Keeps s t := by
  unfold State.route at k
  split at k
  · exact keeps_intake k
  · cases k
    exact keeps_setMgmt s _
  · cases k
    exact .refl s
  · cases k
    exact .refl s

theorem keeps_refuseMessage (s : State) (p : Port) (h : BodyHead) (cls : Option RequestClass) (why : Reason) :
    Keeps s (s.refuseMessage p h cls why) := by
  unfold State.refuseMessage
  simp only
  split
  · exact keeps_placeControl s p _
  · exact (keeps_placeControl s p _).trans (keeps_returnCredit _ p _)

theorem keeps_acceptMessage {s t : State} {p : Port} {h : BodyHead} {m : Parsed} (k : s.acceptMessage p h m = some t) :
    Keeps s t := by
  unfold State.acceptMessage at k
  split at k
  · cases k
    exact keeps_linkDown s p _
  · simp only at k
    split at k
    · cases k
      exact (keeps_acceptFrame s p _).trans (keeps_refuseMessage _ p h _ _)
    · exact (keeps_acceptFrame s p _).trans (keeps_route k)

/-! The outgoing arbiter -/

theorem buffer_returnCredit (s : State) (p q : Port) (cls : RequestClass) :
    ((s.returnCredit q cls).link p).buffer = (s.link p).buffer := by
  unfold State.returnCredit
  split
  · by_cases e : p = q
    · subst e
      rw [link_setLink_self]
      cases cls <;> rfl
    · rw [link_setLink_of_ne _ _ _ _ e]
  · rfl

theorem buffer_freeSlotOf (s : State) (p : Port) (slot : Nat) : ((s.freeSlotOf slot).link p).buffer = (s.link p).buffer := by
  unfold State.freeSlotOf
  split
  · rfl
  · split
    · cases p <;> rfl
    · rw [buffer_returnCredit]
      cases p <;> rfl

theorem buffer_barrierDone (s : State) (p : Port) (slot : Nat) (e : Entry) :
    ((s.barrierDone slot e).link p).buffer = (s.link p).buffer := by
  unfold State.barrierDone
  split
  · rfl
  · next q _ _ _ _ =>
    split
    · exact buffer_freeSlotOf s p slot
    · cases p <;> cases q <;> rfl

theorem buffer_foldBarriers (l : List (Nat × Entry)) (s : State) (p : Port) :
    ((l.foldl (fun s x => s.barrierDone x.1 x.2) s).link p).buffer = (s.link p).buffer := by
  induction l generalizing s with
  | nil => rfl
  | cons x t ih => rw [List.foldl_cons, ih, buffer_barrierDone]

theorem buffer_reevaluatePass (s : State) (p : Port) : (s.reevaluatePass.link p).buffer = (s.link p).buffer := by
  unfold State.reevaluatePass
  rw [buffer_foldBarriers]
  cases p <;> rfl

theorem buffer_reevaluateFor (n : Nat) (s : State) (p : Port) :
    ((reevaluateFor n s).link p).buffer = (s.link p).buffer := by
  induction n generalizing s with
  | zero => exact buffer_reevaluatePass s p
  | succ n ih =>
    unfold reevaluateFor
    split
    · rw [ih, buffer_reevaluatePass]
    · exact buffer_reevaluatePass s p

theorem buffer_reevaluate (s : State) (p : Port) : (s.reevaluate.link p).buffer = (s.link p).buffer :=
  buffer_reevaluateFor _ s p

theorem keeps_arbiterTake {s : State} {p : Port} (h : s.mayTake p = true) : Keeps s (s.arbiterTake p) := by
  have room : (s.link p).buffer.length < 32 := by
    simp only [State.mayTake, Bool.and_eq_true, decide_eq_true_eq] at h
    exact h.1.2
  unfold State.arbiterTake
  split
  · next m rest hc =>
    refine .trans (keeps_setLink s p (l := { s.link p with control := rest }) ⟨fun k => ?_, id⟩)
      (keeps_sendMessage m (by rw [link_setLink_self]; exact room))
    obtain ⟨buffer, control, others⟩ := k
    rw [hc, List.length_cons] at control
    exact ⟨buffer, Nat.le_of_succ_le control, others⟩
  · split
    · next slot rest _ =>
      split
      · next e _ =>
        have listed : Keeps s (s.setPort p { s.port p with replies := rest }) := keeps_setPort s p (.refl _)
        refine .trans (.trans (.trans listed (keeps_freeSlotOf _ slot)) (keeps_reevaluate _)) (keeps_sendMessage _ ?_)
        rw [buffer_reevaluate, buffer_freeSlotOf]
        cases p <;> exact room
      · exact .refl s
    · split
      · next i n _ =>
        refine .trans (keeps_setLink s p (linkKept_notices (slot := none) (by exact fun _ _ none => nomatch none))) (keeps_sendMessage _ ?_)
        rw [link_setLink_self]
        exact room
      · exact .refl s

/-! Banks, openings, resets -/

theorem bankRange_settleBank (s : State) (b : Fin 16) {r : Bank} (h : BankRange r) : BankRange (s.settleBank b r) := by
  have same := settleBank_untimed s b r
  unfold Bank.untimed at same
  injection same with _ _ _ _ _ pos _ _ _ _ corrected streak _ _ debt _
  unfold BankRange
  rw [pos, corrected, streak, debt]
  exact h

theorem napCount_settlePower (s : State) : s.settlePower.napCount = s.power.napCount := by
  have same := settlePower_untimed s
  injection same

theorem keeps_settle (s : State) : Keeps s s.settle := by
  have banks : Keeps s { s with banks := Vector.ofFn fun b => s.settleBank b s.banks[b] } :=
    keeps_setBanks s fun b h => by
      rw [Fin.getElem_fin, Vector.getElem_ofFn]
      exact bankRange_settleBank s b h
  unfold State.settle
  exact banks.trans (keeps_setPower _ (.inl (napCount_settlePower s)))

theorem bankRange_startOpening {r : Bank} (now : Time) (o : Opening) (h : BankRange r) : BankRange (r.startOpening now o) := by
  cases o with
  | rowOpen row => exact h
  | refresh =>
    obtain ⟨debt, corrected, streak, pos, whole⟩ := h
    refine ⟨debt, corrected, streak, ?_, ?_⟩
    · simp only [Bank.startOpening, Bank.startRefresh, nextRefreshPos]
      split <;> omega
    · simp only [Bank.startOpening, Bank.startRefresh, nextRefreshPos]
      split <;> omega

/-- A start that the window and the spacing allow enters both records (R48, R49). -/
theorem keeps_enterOpening {s : State} (h : s.openingAllowed = true) :
    Keeps s { s with window := s.liveWindow ++ [s.now], spacing := some s.now } := by
  simp only [State.openingAllowed, Bool.and_eq_true, decide_eq_true_eq] at h
  obtain ⟨few, spaced⟩ := h
  refine ⟨fun ⟨_, apart, recorded, past⟩ => ⟨?_, ?_, fun t ht => ⟨s.now, rfl, ?_⟩, fun u hu => ?_⟩, id, id, fun _ => .refl _,
    id, id⟩
  · show (s.liveWindow ++ [s.now]).length ≤ 5
    rw [List.length_append]
    exact few
  · refine List.pairwise_append.2 ⟨apart.filter _, List.pairwise_singleton _ _, fun t ht u hu => ?_⟩
    rw [List.mem_singleton.1 hu]
    obtain ⟨v, hv, le⟩ := recorded t (List.mem_filter.1 ht).1
    rw [hv] at spaced
    have since : v + openingSpacing ≤ s.now := of_decide_eq_true spaced
    exact (Nat.add_le_add_right le _).trans since
  · rcases List.mem_append.1 ht with ht | ht
    · obtain ⟨v, hv, le⟩ := recorded t (List.mem_filter.1 ht).1
      exact le.trans (past v hv)
    · exact (List.mem_singleton.1 ht).le
  · cases hu
    exact Nat.le_refl _

theorem keeps_grantOpening {s : State} (b : Fin 16) (o : Opening) (h : s.openingAllowed = true) :
    Keeps s (s.grantOpening b o) :=
  (keeps_setBank s b (bankRange_startOpening s.now o)).trans (keeps_enterOpening h)

theorem keeps_windowSlot {s : State} {t : Time} {rest : List Time} (h : s.window = t :: rest) :
    Keeps s { s with window := rest } := by
  refine ⟨fun ⟨length, apart, recorded, past⟩ => ?_, id, id, fun _ => .refl _, id, id⟩
  rw [h] at length apart recorded
  exact ⟨Nat.le_of_succ_le length, apart.of_cons, fun u hu => recorded u (List.mem_cons_of_mem _ hu), past⟩

theorem keeps_grantFirst (s : State) (slot : Nat) (e : Entry) : Keeps s (s.grantFirst slot e) := by
  have streak : s.nextStreak (bankOf e.first) e ≤ 64 := by
    unfold State.nextStreak
    split
    · exact Nat.min_le_left _ _
    · exact Nat.zero_le _
  have counted : Keeps s ((s.setEntry slot { e with state := .inAccess }).setBank (bankOf e.first)
      { s.bank (bankOf e.first) with hitStreak := s.nextStreak (bankOf e.first) e }) :=
    (keeps_setEntry s slot _).trans
      (keeps_setBank _ (bankOf e.first) fun ⟨debt, corrected, _, pos⟩ => ⟨debt, corrected, streak, pos⟩)
  exact counted.trans (keeps_setPath _ _)

theorem keeps_startIntervals (s : State) : Keeps s s.startIntervals := keeps_mapBanks s fun _ _ h => h

theorem keeps_startIntervalsIfStopped (s : State) : Keeps s s.startIntervalsIfStopped := by
  unfold State.startIntervalsIfStopped
  split
  · exact keeps_startIntervals _
  · exact .refl _

theorem keeps_resetLow (s : State) : Keeps s s.resetLow := by
  unfold State.resetLow
  simp only
  refine .trans (.trans (.trans ?_ (keeps_mapBanks _ (by exact fun _ _ h => h))) (keeps_startIntervalsIfStopped _))
    (keeps_settleRunDown _)
  refine .of (fill := fun _ => nofun) (scrub := fun _ => ⟨Nat.zero_le _, Nat.zero_le _⟩) (links := fun p => ?_)
    (table := fun _ => List.Pairwise.nil)
  cases p <;> exact linkKept_cleared _

theorem keeps_powerUp (s : State) (high : Bool) : Keeps s (s.powerUp high) := by
  have fresh : Keeps s { State.reset with
      now := s.now
      powerOns := s.powerOns + 1
      rstHigh := high
      pending := s.pending
      portA := { PortRec.powerOn with tx := s.portA.tx }
      portB := { PortRec.powerOn with tx := s.portB.tx } } := by
    refine ⟨fun _ => ⟨Nat.zero_le _, List.Pairwise.nil, nofun, nofun⟩, fun _ b => ?_, fun _ => ?_, fun p => ?_, fun _ => ?_,
      fun _ => ⟨List.Pairwise.nil, List.Pairwise.nil, List.Pairwise.nil⟩⟩
    · simp [State.bank, State.reset, Bank.powerOn]
    · exact ⟨Nat.zero_le _, Nat.zero_le _, Nat.zero_le _, Nat.zero_le _, Nat.zero_le _, nofun, nofun⟩
    · cases p <;> exact linkKept_cleared _
    · exact ⟨Nat.zero_le _, List.Pairwise.nil, nofun, Nat.zero_lt_succ _, rfl⟩
  unfold State.powerUp
  simp only
  split
  · exact fresh
  · exact fresh.trans (keeps_startIntervals _)

/-! ### Every step -/

theorem keeps_becomePending {s : State} {p : Port} (revision : Byte) (h : (s.link p).state ≠ .active) :
    Keeps s (s.becomePending p revision) := keeps_setLink s p (linkKept_pending _ _ h)

theorem keeps_sleep (s : State) : Keeps s { s with portA := s.portA.sleeping, portB := s.portB.sleeping } :=
  .of (links := fun p => by cases p <;> exact linkKept_sleep _)

/-- A property that whatever `Keeps` allows leaves standing is an invariant of the steps. -/
theorem stepInvariant_of_keeps {I : State → Prop} (h : ∀ s t, Keeps s t → I s → I t) : StepInvariant I where
  queue s rest := h s _ .of
  later s n hi le := h s _ (.of (now := le)) hi
  lines s high inReset owner := h s _ .of
  powerUp s high := h s _ (keeps_powerUp s high)
  resetLow s := h s _ (keeps_resetLow s)
  settle s := h s _ (keeps_settle s)
  settleRunDown s := h s _ (keeps_settleRunDown s)
  power s w hi range := h s _ (keeps_setPower s range) hi
  maint s m hi range := h s _ (keeps_setMaint s range) hi
  banks s B hi range := h s _ (.of (banks := range)) hi
  setCondition s block c := h s _ (.of (conditions := fun w => Sparse.wf_insert w block c))
  grantOpening s b o hi allowed := h s _ (keeps_grantOpening b o allowed) hi
  windowSlot s t rest hi hw := h s _ (keeps_windowSlot hw) hi
  calRun s due := h s _ .of
  firstAccess s slot e hi _ := h s _ (keeps_grantFirst s slot e) hi
  writeBack s slot e hi _ := h s _ .of hi
  readEnds s f hi _ := h s _ (keeps_readEnds s f) hi
  writeEnds s f hi _ := h s _ (keeps_writeEnds s f) hi
  stepTimer s due waiting := h s _ (keeps_setScrub s fun k => k)
  stepFallsDue s := h s _ (keeps_stepFallsDue s)
  emit s p f := h s _ (keeps_emit s p f)
  quietLink s p l hi quiet := h s _ (keeps_setLink s p (linkKept_quiet quiet)) hi
  clearLink s p := h s _ (keeps_setLink s p (linkKept_cleared _))
  becomePending s p revision hi down := h s _ (keeps_becomePending revision down) hi
  sleep s := h s _ (keeps_sleep s)
  setVote s p v := h s _ (keeps_setVote s p v)
  raiseNotice s p n := h s _ (keeps_raiseNotice s p n)
  sendAck s p := h s _ (keeps_sendAck s p)
  ackProgress s p n := h s _ (keeps_ackProgress s p n)
  linkDown s p why := h s _ (keeps_linkDown s p why)
  answerTrain s p revision := h s _ (keeps_answerTrain s p revision)
  acceptMessage s p head m t hi _ accepted := h s t (keeps_acceptMessage accepted) hi
  arbiterTake s p hi may := h s _ (keeps_arbiterTake may) hi
  take s q rest hi _ := h s _ ((keeps_setMgmt s _).trans (keeps_takeRequest q _)) hi

theorem keeps_openingsSpaced : StepInvariant State.openingsSpaced := stepInvariant_of_keeps fun _ _ k => k.openings
theorem keeps_banksInRange : StepInvariant State.banksInRange := stepInvariant_of_keeps fun _ _ k => k.banks
theorem keeps_countersInRange : StepInvariant State.countersInRange := stepInvariant_of_keeps fun _ _ k => k.counters
theorem keeps_linksInRange : StepInvariant State.linksInRange :=
  stepInvariant_of_keeps fun _ _ k h p => (k.links p).1 (h p)
theorem keeps_idleSound : StepInvariant fun s => ∀ p, IdleSound (s.link p) :=
  stepInvariant_of_keeps fun _ _ k h p => (k.links p).2 (h p)
theorem keeps_recordsDistinct : StepInvariant State.recordsDistinct := stepInvariant_of_keeps fun _ _ k => k.records
theorem keeps_canonical : StepInvariant State.canonical := stepInvariant_of_keeps fun _ _ k => k.canonical

/-- Settles O7: a start enters the records only where window and spacing allow it, and time does not run back. -/
theorem stepsKeepOpeningsSpaced : Obligations.StepsKeepOpeningsSpaced := fun _ _ hs h => keeps_openingsSpaced.step hs h

/-- Settles O9: a report takes the next number, which no record carries, and what follows it is searched for among 17
numbers; the maps are changed by listing, unlisting and mapping alone. -/
theorem stepsKeepRecordsAndMapsInOrder : Obligations.StepsKeepRecordsAndMapsInOrder :=
  ⟨fun _ _ hs h => keeps_recordsDistinct.step hs h, fun _ _ hs h => keeps_canonical.step hs h⟩

end Sys2Proof.Machine.Steps
end

section
/-! The credit accounts (R20, R144): what each operation owes and pays. Within an event a credit may be on its way; `Owing`
says how many of each class are, port by port, and an event that ends owing none ends balanced. -/

namespace Sys2Proof.Machine.Accounts

open Sys2Proof.Machine.Steps

/-! ### Keys of a sparse list -/

/-- How many keys satisfy a condition. -/
def countKeys {α : Type} (f : Nat → Bool) (l : List (Nat × α)) : Nat := (l.filter fun x => f x.1).length

theorem occupied_eq (s : State) (start size : Nat) :
    s.occupied start size = countKeys (fun k => decide (start ≤ k ∧ k < start + size)) s.table := rfl

theorem find?_eq_none_of_lt {α : Type} {l : List (Nat × α)} {k : Nat} (h : ∀ x ∈ l, k < x.1) : Sparse.find? l k = none := by
  cases e : Sparse.find? l k with
  | none => rfl
  | some v => exact absurd (h _ (Sparse.mem_of_find? e)) (Nat.lt_irrefl k)

theorem countKeys_cons {α : Type} (f : Nat → Bool) (x : Nat × α) (l : List (Nat × α)) :
    countKeys f (x :: l) = countKeys f l + (if f x.1 then 1 else 0) := by
  unfold countKeys
  rw [List.filter_cons]
  split <;> rfl

theorem countKeys_insert_new {α : Type} (f : Nat → Bool) {l : List (Nat × α)} {k : Nat} (v : α) (h : Sparse.find? l k = none) :
    countKeys f (Sparse.insert l k v) = countKeys f l + (if f k then 1 else 0) := by
  induction l with
  | nil => exact countKeys_cons f (k, v) []
  | cons x t ih =>
    obtain ⟨k', v'⟩ := x
    rw [Sparse.find?_cons] at h
    have ne : k ≠ k' := fun e => by rw [if_pos e] at h; cases h
    rw [if_neg ne] at h
    unfold Sparse.insert
    split
    · rw [countKeys_cons]
    · rw [countKeys_cons, countKeys_cons, ih h]
      omega

theorem countKeys_insert_old {α : Type} (f : Nat → Bool) {l : List (Nat × α)} (w : Sparse.Wf l) {k : Nat} (v : α)
    (h : Sparse.find? l k ≠ none) : countKeys f (Sparse.insert l k v) = countKeys f l := by
  induction l with
  | nil => exact absurd rfl h
  | cons x t ih =>
    obtain ⟨k', v'⟩ := x
    rw [Sparse.Wf, List.pairwise_cons] at w
    rw [Sparse.find?_cons] at h
    unfold Sparse.insert
    split
    · next lt =>
      refine absurd ?_ h
      rw [if_neg (Nat.ne_of_lt lt)]
      exact find?_eq_none_of_lt fun y hy => Nat.lt_trans lt (w.1 y hy)
    · split
      · next e =>
        subst e
        rw [countKeys_cons, countKeys_cons]
      · next ne =>
        rw [if_neg ne] at h
        rw [countKeys_cons, countKeys_cons, ih w.2 h]

theorem erase_of_find?_none {α : Type} {l : List (Nat × α)} {k : Nat} (h : Sparse.find? l k = none) : Sparse.erase l k = l := by
  induction l with
  | nil => rfl
  | cons x t ih =>
    rw [Sparse.find?_cons] at h
    have ne : k ≠ x.1 := fun e => by rw [if_pos e] at h; cases h
    rw [if_neg ne] at h
    unfold Sparse.erase at ih ⊢
    rw [List.filter_cons, if_pos (by simpa using ne.symm), ih h]

theorem countKeys_erase {α : Type} (f : Nat → Bool) {l : List (Nat × α)} (w : Sparse.Wf l) {k : Nat}
    (h : Sparse.find? l k ≠ none) : countKeys f (Sparse.erase l k) + (if f k then 1 else 0) = countKeys f l := by
  induction l with
  | nil => exact absurd rfl h
  | cons x t ih =>
    obtain ⟨k', v'⟩ := x
    rw [Sparse.Wf, List.pairwise_cons] at w
    rw [Sparse.find?_cons] at h
    by_cases e : k = k'
    · subst e
      have rest : Sparse.erase t k = t := erase_of_find?_none (find?_eq_none_of_lt w.1)
      have gone : Sparse.erase ((k, v') :: t) k = t := by
        rw [← rest]
        simp [Sparse.erase]
      rw [gone, countKeys_cons]
    · rw [if_neg e] at h
      have kept : Sparse.erase ((k', v') :: t) k = (k', v') :: Sparse.erase t k := by
        simp [Sparse.erase, Ne.symm e]
      rw [kept, countKeys_cons, countKeys_cons, ← ih w.2 h]
      omega

theorem countKeys_map {α : Type} (f : Nat → Bool) (l : List (Nat × α)) (g : Nat → α → α) :
    countKeys f (Sparse.map g l) = countKeys f l := by
  induction l with
  | nil => rfl
  | cons x t ih =>
    have : Sparse.map g (x :: t) = (x.1, g x.1 x.2) :: Sparse.map g t := rfl
    rw [this, countKeys_cons, countKeys_cons, ih]

/-- Keys taken out, none of which satisfies the condition, are not missed. -/
theorem countKeys_filter {α : Type} (f : Nat → Bool) (l : List (Nat × α)) (keep : Nat × α → Bool)
    (h : ∀ x ∈ l, f x.1 = true → keep x = true) : countKeys f (l.filter keep) = countKeys f l := by
  unfold countKeys
  rw [List.filter_filter]
  congr 1
  refine List.filter_congr fun x hx => ?_
  cases e : f x.1
  · rfl
  · exact h x hx e

/-- A partition holds no more entries than it has slots. -/
theorem countKeys_le {α : Type} {l : List (Nat × α)} (w : Sparse.Wf l) (start size : Nat) :
    countKeys (fun k => decide (start ≤ k ∧ k < start + size)) l ≤ size := by
  have distinct : ((l.filter fun x => decide (start ≤ x.1 ∧ x.1 < start + size)).map (·.1)).Nodup := by
    rw [List.Nodup, List.pairwise_map]
    exact (w.filter _).imp fun lt => Nat.ne_of_lt lt
  have inside : (l.filter fun x => decide (start ≤ x.1 ∧ x.1 < start + size)).map (·.1) ⊆
      (List.range size).map (start + ·) := by
    intro k hk
    obtain ⟨x, hx, rfl⟩ := List.mem_map.1 hk
    have range : start ≤ x.1 ∧ x.1 < start + size := of_decide_eq_true (List.mem_filter.1 hx).2
    exact List.mem_map.2 ⟨x.1 - start, List.mem_range.2 (by omega), by omega⟩
  have := (List.subperm_of_subset distinct inside).length_le
  simpa [countKeys] using this

/-! ### Credits on their way -/

/-- The slot lies in the partition of a port (R20). -/
def inPartition (p : Port) (k : Nat) : Prop := partitionStart p ≤ k ∧ k < partitionStart p + 48

theorem heldByPort_eq (s : State) (p : Port) :
    s.heldByPort p = countKeys (fun k => decide (partitionStart p ≤ k ∧ k < partitionStart p + 48)) s.table := rfl

/-- One credit owed to a port. -/
def owe (p : Port) : Port → Nat := fun q => if q = p then 1 else 0

@[simp] theorem owe_self (p : Port) : owe p p = 1 := if_pos rfl
theorem owe_of_ne {p q : Port} (h : q ≠ p) : owe p q = 0 := if_neg h

/-- No abort reply waits in a fill that runs. -/
def AbortSound (fill : Option Fill) : Prop := ∀ f, fill = some f → f.aborting = false → f.abortReply = none

/-- The accounts with `mem` memory and `mgmt` management credits on their way to each port. -/
structure Owing (mem mgmt : Port → Nat) (s : State) : Prop where
  wf : Sparse.Wf s.table
  parts : s.partitioned
  aborts : AbortSound s.fill
  few : ∀ p, s.mgmtHeld p + mgmt p ≤ 4
  memory : ∀ p, s.linkActive p = true → (s.link p).memOut + (s.link p).memPend + s.heldByPort p + mem p = 48
  management : ∀ p, s.linkActive p = true → (s.link p).mgmtOut + (s.link p).mgmtPend + s.mgmtHeld p + mgmt p = 4

theorem accountsSound_iff (s : State) : s.accountsSound ↔ Owing 0 0 s :=
  ⟨fun ⟨wf, parts, aborts, few, balance⟩ =>
    ⟨wf, parts, aborts, few, fun p h => (balance p h).1, fun p h => (balance p h).2⟩,
   fun h => ⟨h.wf, h.parts, h.aborts, h.few, fun p k => ⟨h.memory p k, h.management p k⟩⟩⟩

variable {mem mgmt : Port → Nat} {s t : State} {p : Port}

/-! ### What the accounts do not see -/

/-- A link record's state and the totals of its credits are as they were. -/
def SameTotals (l l' : Link) : Prop :=
  l'.state = l.state ∧ l'.memOut + l'.memPend = l.memOut + l.memPend ∧ l'.mgmtOut + l'.mgmtPend = l.mgmtOut + l.mgmtPend

theorem SameTotals.refl (l : Link) : SameTotals l l := ⟨rfl, rfl, rfl⟩

/-- Nothing that the accounts see differs. -/
structure Unseen (s t : State) : Prop where
  table : t.table = s.table
  queue : t.mgmt.queue = s.mgmt.queue
  fill : t.fill = s.fill
  links : ∀ p, SameTotals (s.link p) (t.link p)

theorem Unseen.of (table : t.table = s.table := by rfl) (queue : t.mgmt.queue = s.mgmt.queue := by rfl)
    (fill : t.fill = s.fill := by rfl) (links : ∀ p, SameTotals (s.link p) (t.link p) := by exact fun _ => .refl _) :
    Unseen s t := ⟨table, queue, fill, links⟩

theorem Unseen.refl (s : State) : Unseen s s := .of

theorem Unseen.trans {u : State} (h : Unseen s t) (k : Unseen t u) : Unseen s u where
  table := k.table.trans h.table
  queue := k.queue.trans h.queue
  fill := k.fill.trans h.fill
  links q := by
    obtain ⟨h1, h2, h3⟩ := h.links q
    obtain ⟨k1, k2, k3⟩ := k.links q
    exact ⟨k1.trans h1, k2.trans h2, k3.trans h3⟩

theorem mgmtHeld_congr (queue : t.mgmt.queue = s.mgmt.queue) (fill : t.fill = s.fill) (q : Port) :
    t.mgmtHeld q = s.mgmtHeld q := by
  unfold State.mgmtHeld
  rw [queue, fill]

theorem heldByPort_congr (table : t.table = s.table) (q : Port) : t.heldByPort q = s.heldByPort q := by
  rw [heldByPort_eq, heldByPort_eq, table]

theorem linkActive_congr {q : Port} (h : (t.link q).state = (s.link q).state) : t.linkActive q = s.linkActive q := by
  unfold State.linkActive
  rw [h]

theorem linkActive_setLink_self {l : Link} (h : l.state = (s.link p).state) : (s.setLink p l).linkActive p = s.linkActive p :=
  linkActive_congr (by rw [link_setLink_self, h])

theorem linkActive_setLink_of_ne (l : Link) {q : Port} (h : q ≠ p) : (s.setLink p l).linkActive q = s.linkActive q :=
  linkActive_congr (by rw [link_setLink_of_ne _ _ _ _ h])

theorem Owing.unseen (h : Owing mem mgmt s) (k : Unseen s t) : Owing mem mgmt t where
  wf := k.table ▸ h.wf
  parts := by
    unfold State.partitioned
    rw [k.table]
    exact h.parts
  aborts := k.fill ▸ h.aborts
  few q := by
    rw [mgmtHeld_congr k.queue k.fill]
    exact h.few q
  memory q active := by
    obtain ⟨state, total, -⟩ := k.links q
    rw [linkActive_congr state] at active
    rw [total, heldByPort_congr k.table]
    exact h.memory q active
  management q active := by
    obtain ⟨state, -, total⟩ := k.links q
    rw [linkActive_congr state] at active
    rw [total, mgmtHeld_congr k.queue k.fill]
    exact h.management q active

theorem unseen_setPort (s : State) (p : Port) {r : PortRec} (h : SameTotals (s.link p) r.link) : Unseen s (s.setPort p r) := by
  cases p with
  | a => exact .of (links := fun q => by cases q; exacts [h, .refl _])
  | b => exact .of (links := fun q => by cases q; exacts [.refl _, h])

theorem unseen_setLink (s : State) (p : Port) {l : Link} (h : SameTotals (s.link p) l) : Unseen s (s.setLink p l) :=
  unseen_setPort s p h

theorem unseen_emit (s : State) (p : Port) (f : Frame) : Unseen s (s.emit p f) := unseen_setPort s p (.refl _)

theorem unseen_setVote (s : State) (p : Port) (v : Bool) : Unseen s (s.setVote p v) := unseen_setPort s p (.refl _)

theorem unseen_raiseNotice (s : State) (p : Port) (n : Notice) : Unseen s (s.raiseNotice p n) := by
  unfold State.raiseNotice
  split
  · exact unseen_setLink s p (by exact .refl _)
  · exact .refl s

theorem unseen_raiseBoth (s : State) (n : Notice) : Unseen s (s.raiseBoth n) :=
  (unseen_raiseNotice s .a n).trans (unseen_raiseNotice _ .b n)

theorem unseen_removeVote (s : State) (p : Port) : Unseen s (s.removeVote p) := by
  unfold State.removeVote
  split
  · exact (unseen_setVote s p false).trans (unseen_raiseNotice _ _ _)
  · exact .refl s

theorem sameTotals_headerBuilt (l : Link) : SameTotals l l.headerBuilt := by
  unfold Link.headerBuilt
  simp only
  split
  · exact ⟨rfl, rfl, rfl⟩
  · exact .refl l

theorem unseen_sendAck (s : State) (p : Port) : Unseen s (s.sendAck p) :=
  (unseen_setLink s p (sameTotals_headerBuilt _)).trans (unseen_emit _ p _)

theorem unseen_sendMessage (s : State) (p : Port) (m : Message) : Unseen s (s.sendMessage p m) :=
  (unseen_setLink s p (by exact sameTotals_headerBuilt _)).trans (unseen_emit _ p _)

theorem sameTotals_quiet {l l' : Link} (h : QuietLink l l') : SameTotals l l' := by
  obtain ⟨_, _, _, _, _, _, _, rfl, -⟩ := h
  exact .refl l

theorem unseen_endNap (s : State) : Unseen s s.endNap := by
  unfold State.endNap
  split
  · exact .of
  · exact .refl s

theorem unseen_calTrigger (s : State) (k : CalKind) : Unseen s (s.calTrigger k) := by
  have triggered : Unseen s { s with maint := s.maint.takeTrigger k } := .of
  unfold State.calTrigger
  simp only
  split
  · exact .refl s
  · split
    · exact triggered.trans (unseen_endNap _)
    · exact triggered

theorem unseen_setErrors (s : State) (errors : ErrorTable) : Unseen s { s with errors := errors } := .of

theorem unseen_takeReport (s : State) (source : Source) (block : Nat) : Unseen s (s.takeReport source block) := by
  unfold State.takeReport
  split
  · simp only
    split
    · exact (unseen_setErrors s _).trans (unseen_raiseBoth _ _)
    · exact unseen_setErrors s _
  · split
    · exact (unseen_setErrors s _).trans (unseen_raiseBoth _ _)
    · exact (unseen_setErrors s _).trans (unseen_raiseBoth _ _)

theorem unseen_foldl {α : Type} {f : State → α → State} (h : ∀ s x, Unseen s (f s x)) (l : List α) (s : State) :
    Unseen s (l.foldl f s) := by
  induction l generalizing s with
  | nil => exact .refl s
  | cons x t ih => exact (h s x).trans (ih _)

theorem unseen_setMemory (s : State) (contents : List Host.Cell) (conditions : List (Nat × Condition)) :
    Unseen s { s with contents := contents, conditions := conditions } := .of

theorem unseen_writeBlocks (s : State) (writes : List (Nat × List Byte)) : Unseen s (s.writeBlocks writes) := by
  unfold State.writeBlocks State.writeBlock
  exact unseen_foldl (fun s _ => unseen_setMemory s _ _) writes s

theorem unseen_setBanks (s : State) (B : Vector Bank 16) : Unseen s { s with banks := B } := .of

theorem unseen_settleRunDown (s : State) : Unseen s s.settleRunDown := by
  unfold State.settleRunDown
  split
  · exact .of
  · exact .refl s

/-! ### Entries -/

theorem Owing.setTable {table : List (Nat × Entry)} (h : Owing mem mgmt s) (wf : Sparse.Wf table)
    (parts : ∀ x ∈ table, ∀ p, x.2.owner.port? = some p ↔ inPartition p x.1)
    (count : ∀ p, s.linkActive p = true →
      countKeys (fun k => decide (partitionStart p ≤ k ∧ k < partitionStart p + 48)) table = s.heldByPort p) :
    Owing mem mgmt { s with table := table } where
  wf := wf
  parts := parts
  aborts := h.aborts
  few := h.few
  memory q active := by
    rw [heldByPort_eq, count q active]
    exact h.memory q active
  management := h.management

theorem Owing.mapTable (h : Owing mem mgmt s) {f : Nat → Entry → Entry} (k : ∀ i e, (f i e).owner.port? = e.owner.port?) :
    Owing mem mgmt { s with table := Sparse.map f s.table } := by
  refine h.setTable (Sparse.wf_map h.wf f) (fun x hx q => ?_) fun q _ => countKeys_map _ _ _
  obtain ⟨y, hy, rfl⟩ := List.mem_map.1 hx
  rw [k]
  exact h.parts y hy q

theorem Owing.inPartition_iff (h : Owing mem mgmt s) {k : Nat} {e : Entry} (he : s.entry k = some e) (q : Port) :
    e.owner.port? = some q ↔ inPartition q k := h.parts _ (Sparse.mem_of_find? he) q

/-- An entry changes but for its owner. -/
theorem Owing.setEntry (h : Owing mem mgmt s) {k : Nat} {e e' : Entry} (he : s.entry k = some e)
    (own : e'.owner.port? = e.owner.port?) : Owing mem mgmt (s.setEntry k e') := by
  refine h.setTable (Sparse.wf_insert h.wf k e') (fun x hx q => ?_) fun q _ =>
    countKeys_insert_old _ h.wf e' (by rw [← State.entry, he]; exact nofun)
  rcases Sparse.mem_insert hx with rfl | hx
  · rw [own]
    exact h.inPartition_iff he q
  · exact h.parts x hx q

theorem partition_unique {k : Nat} {p q : Port} (hp : inPartition p k) (hq : inPartition q k) : q = p := by
  unfold inPartition at hp hq
  by_contra other
  have apart : partitionStart p + 48 ≤ partitionStart q ∨ partitionStart q + 48 ≤ partitionStart p := by
    cases p <;> cases q <;> simp [partitionStart] at other ⊢
  omega

theorem Owing.clear_parts (h : Owing mem mgmt s) (k : Nat) : (s.clearSlot k).partitioned :=
  fun x hx => h.parts x (List.mem_filter.1 hx).1

/-- A maintenance entry leaves the table: no account sees it. -/
theorem Owing.clear_maintenance (h : Owing mem mgmt s) {k : Nat} {e : Entry} (he : s.entry k = some e)
    (own : e.owner.port? = none) : Owing mem mgmt (s.clearSlot k) := by
  refine h.setTable (Sparse.wf_erase h.wf k) (h.clear_parts k) fun q _ => ?_
  have outside : ¬ inPartition q k := fun hk => by
    rw [← h.inPartition_iff he q, own] at hk
    cases hk
  have := countKeys_erase (fun k => decide (partitionStart q ≤ k ∧ k < partitionStart q + 48)) h.wf
    (k := k) (by rw [← State.entry, he]; exact nofun)
  rw [if_neg (by simpa [inPartition] using outside)] at this
  exact this

/-- A port entry leaves the table: its credit is on its way. -/
theorem Owing.clear_port (h : Owing mem mgmt s) {k : Nat} {e : Entry} (he : s.entry k = some e)
    (own : e.owner.port? = some p) : Owing (mem + owe p) mgmt (s.clearSlot k) where
  wf := Sparse.wf_erase h.wf k
  parts := h.clear_parts k
  aborts := h.aborts
  few := h.few
  management := h.management
  memory q active := by
    have inside : inPartition p k := (h.inPartition_iff he p).1 own
    have erased := countKeys_erase (fun k => decide (partitionStart q ≤ k ∧ k < partitionStart q + 48)) h.wf
      (k := k) (by rw [← State.entry, he]; exact nofun)
    have balance := h.memory q active
    rw [heldByPort_eq] at balance ⊢
    rw [Pi.add_apply]
    by_cases e : q = p
    · subst e
      rw [if_pos (by simpa [inPartition] using inside)] at erased
      rw [owe_self]
      simp only [State.clearSlot, State.link, State.port] at balance ⊢
      omega
    · rw [if_neg (by simpa using fun hq hk => e (partition_unique inside ⟨hq, hk⟩))] at erased
      rw [owe_of_ne e]
      simp only [State.clearSlot, State.link, State.port] at balance ⊢
      omega

/-! ### Credits paid -/

theorem Owing.drop (h : Owing (mem + owe p) mgmt s) (down : s.linkActive p = false) : Owing mem mgmt s where
  wf := h.wf
  parts := h.parts
  aborts := h.aborts
  few := h.few
  management := h.management
  memory q active := by
    have ne : q ≠ p := fun e => by rw [e, down] at active; cases active
    have := h.memory q active
    rwa [Pi.add_apply, owe_of_ne ne] at this

theorem Owing.dropManagement (h : Owing mem (mgmt + owe p) s) (down : s.linkActive p = false) : Owing mem mgmt s where
  wf := h.wf
  parts := h.parts
  aborts := h.aborts
  few q := (Nat.add_le_add_left (Nat.le_add_right _ _) _).trans (h.few q)
  memory := h.memory
  management q active := by
    have ne : q ≠ p := fun e => by rw [e, down] at active; cases active
    have := h.management q active
    rwa [Pi.add_apply, owe_of_ne ne] at this

/-- The link record of one port changes: its account is what must balance anew. -/
theorem Owing.setLink (h : Owing mem mgmt s) {mem' mgmt' : Port → Nat} {l : Link}
    (others : ∀ q, q ≠ p → mem' q = mem q ∧ mgmt' q = mgmt q) (few : s.mgmtHeld p + mgmt' p ≤ 4)
    (balance : l.state = .active → l.memOut + l.memPend + s.heldByPort p + mem' p = 48 ∧
      l.mgmtOut + l.mgmtPend + s.mgmtHeld p + mgmt' p = 4) :
    Owing mem' mgmt' (s.setLink p l) := by
  have held : ∀ q, (s.setLink p l).mgmtHeld q = s.mgmtHeld q :=
    mgmtHeld_congr (by rw [mgmt_setLink]) (by rw [fill_setLink])
  have slots : ∀ q, (s.setLink p l).heldByPort q = s.heldByPort q := heldByPort_congr (by rw [table_setLink])
  have own : (s.setLink p l).linkActive p = true → l.state = .active := fun active => by
    unfold State.linkActive at active
    rw [link_setLink_self] at active
    exact of_decide_eq_true active
  refine ⟨by rw [table_setLink]; exact h.wf, by unfold State.partitioned; rw [table_setLink]; exact h.parts,
    by rw [fill_setLink]; exact h.aborts, fun q => ?_, fun q active => ?_, fun q active => ?_⟩
  · rw [held]
    by_cases e : q = p
    · exact e ▸ few
    · rw [(others q e).2]
      exact h.few q
  · rw [slots]
    by_cases e : q = p
    · subst e
      rw [link_setLink_self]
      exact (balance (own active)).1
    · rw [linkActive_setLink_of_ne l e] at active
      rw [link_setLink_of_ne _ _ _ _ e, (others q e).1]
      exact h.memory q active
  · rw [held]
    by_cases e : q = p
    · subst e
      rw [link_setLink_self]
      exact (balance (own active)).2
    · rw [linkActive_setLink_of_ne l e] at active
      rw [link_setLink_of_ne _ _ _ _ e, (others q e).2]
      exact h.management q active

theorem linkActive_of_state (h : (s.link p).state = .active) : s.linkActive p = true := decide_eq_true h

/-- The link record of one port changes, its state as it was, and its credits pay the difference. -/
theorem Owing.pay (h : Owing mem mgmt s) {mem' mgmt' : Port → Nat} {l : Link} (state : l.state = (s.link p).state)
    (others : ∀ q, q ≠ p → mem' q = mem q ∧ mgmt' q = mgmt q) (few : s.mgmtHeld p + mgmt' p ≤ 4)
    (memory : l.memOut + l.memPend + mem' p = (s.link p).memOut + (s.link p).memPend + mem p)
    (management : l.mgmtOut + l.mgmtPend + mgmt' p = (s.link p).mgmtOut + (s.link p).mgmtPend + mgmt p) :
    Owing mem' mgmt' (s.setLink p l) := by
  refine h.setLink others few fun active => ?_
  have hm := h.memory p (linkActive_of_state (state ▸ active))
  have hg := h.management p (linkActive_of_state (state ▸ active))
  omega

theorem add_owe_of_ne {m : Port → Nat} {q : Port} (h : q ≠ p) : m q = (m + owe p) q := by
  rw [Pi.add_apply, owe_of_ne h, Nat.add_zero]

theorem Owing.returnMemory (h : Owing (mem + owe p) mgmt s) : Owing mem mgmt (s.returnCredit p .memory) := by
  unfold State.returnCredit
  split
  · next active =>
    refine h.pay rfl (fun q ne => ⟨add_owe_of_ne ne, rfl⟩) (h.few p) ?_ rfl
    simp only [Link.startAckTimer, Pi.add_apply, owe_self]
    omega
  · next down => exact h.drop (Bool.eq_false_of_not_eq_true down)

theorem Owing.returnManagement (h : Owing mem (mgmt + owe p) s) : Owing mem mgmt (s.returnCredit p .management) := by
  unfold State.returnCredit
  split
  · next active =>
    refine h.pay rfl (fun q ne => ⟨rfl, add_owe_of_ne ne⟩)
      ((Nat.add_le_add_left (Nat.le_add_right _ _) _).trans (h.few p)) rfl ?_
    simp only [Link.startAckTimer, Pi.add_apply, owe_self]
    omega
  · next down => exact h.dropManagement (Bool.eq_false_of_not_eq_true down)

/-! ### Freeing and re-evaluation -/

theorem Owing.freeSlotOf (h : Owing mem mgmt s) (slot : Nat) : Owing mem mgmt (s.freeSlotOf slot) := by
  unfold State.freeSlotOf
  split
  · exact h
  · next e he =>
    split
    · next own => exact h.clear_maintenance he own
    · next q own => exact (h.clear_port he own).returnMemory

theorem Owing.barrierDone (h : Owing mem mgmt s) (slot : Nat) (e : Entry) : Owing mem mgmt (s.barrierDone slot e) := by
  unfold State.barrierDone
  split
  · exact h
  · split
    · exact h.freeSlotOf slot
    · exact h.unseen (unseen_setPort s _ (.refl _))

theorem Owing.foldBarriers (h : Owing mem mgmt s) (l : List (Nat × Entry)) :
    Owing mem mgmt (l.foldl (fun s x => s.barrierDone x.1 x.2) s) := by
  induction l generalizing s with
  | nil => exact h
  | cons x t ih => exact ih (h.barrierDone x.1 x.2)

theorem owner_reheld (e : Entry) (h : Holds) : (e.reheld h).owner = e.owner := by
  unfold Entry.reheld
  repeat' split
  all_goals rfl

theorem Owing.reevaluatePass (h : Owing mem mgmt s) : Owing mem mgmt s.reevaluatePass :=
  (h.mapTable fun _ e => by rw [owner_reheld]).foldBarriers _

theorem Owing.reevaluateFor (n : Nat) (h : Owing mem mgmt s) : Owing mem mgmt (Machine.reevaluateFor n s) := by
  induction n generalizing s with
  | zero => exact h.reevaluatePass
  | succ n ih =>
    unfold Machine.reevaluateFor
    split
    · exact ih h.reevaluatePass
    · exact h.reevaluatePass

theorem Owing.reevaluate (h : Owing mem mgmt s) : Owing mem mgmt s.reevaluate := h.reevaluateFor _

/-! ### Link-down -/

/-- A link record that is not ACTIVE has no account. -/
theorem Owing.deactivate (h : Owing mem mgmt s) {l : Link} (down : l.state ≠ .active) : Owing mem mgmt (s.setLink p l) :=
  h.setLink (fun _ _ => ⟨rfl, rfl⟩) (h.few p) fun active => absurd active down

theorem port?_orphaned (e : Entry) (p : Port) : (e.orphanedAtDown p).owner.port? = e.owner.port? := by
  unfold Entry.orphanedAtDown
  split
  · next h => rw [h]; rfl
  · rfl

theorem port?_of_dropped {e : Entry} (h : e.droppedAtDown p = true) : e.owner.port? = some p := by
  unfold Entry.droppedAtDown at h
  split at h
  · next own =>
    simp only [Bool.and_eq_true, decide_eq_true_eq] at h
    rw [own, ← h.1.1]
    rfl
  · cases h

theorem Owing.orphanPort (h : Owing mem mgmt s) (down : s.linkActive p = false) : Owing mem mgmt (s.orphanPort p) := by
  unfold State.orphanPort
  simp only
  generalize hu : s.setPort p _ = u
  have unseen : Unseen s u := by
    subst hu
    exact unseen_setPort s p (.refl _)
  have hu' : Owing mem mgmt u := h.unseen unseen
  have kept : Owing mem mgmt { u with table := u.table.filter fun x => !x.2.droppedAtDown p } := by
    refine hu'.setTable (Sparse.wf_filter hu'.wf _) (fun x hx => hu'.parts x (List.mem_filter.1 hx).1) fun q active => ?_
    have ne : q ≠ p := by
      rintro rfl
      rw [linkActive_congr (unseen.links q).1, down] at active
      cases active
    refine countKeys_filter _ _ _ fun x hx hq => ?_
    cases e : x.2.droppedAtDown p with
    | false => rfl
    | true =>
      have inside := (hu'.parts x hx p).1 (port?_of_dropped e)
      exact absurd (partition_unique inside (show inPartition q x.1 by simpa [inPartition] using hq)) ne
  exact (kept.mapTable fun _ e => port?_orphaned e p).reevaluate

/-- Requests of a port in a queue. -/
def queued (queue : List HeldRequest) (q : Port) : Nat := (queue.filter fun r => decide (r.port = q)).length

/-- The abort reply that waits for a port. -/
def aborting (fill : Option Fill) (q : Port) : Nat :=
  match fill.bind (·.abortReply) with
  | some (p, _) => if p = q then 1 else 0
  | none => 0

theorem mgmtHeld_eq (s : State) (q : Port) : s.mgmtHeld q = queued s.mgmt.queue q + aborting s.fill q := by
  unfold State.mgmtHeld queued aborting
  cases s.fill.bind (·.abortReply) <;> rfl

theorem queued_filter_ne (queue : List HeldRequest) {p q : Port} :
    queued (queue.filter fun r => decide (r.port ≠ p)) q = if q = p then 0 else queued queue q := by
  unfold queued
  rw [List.filter_filter]
  split
  · next e =>
    subst e
    simp
  · next ne =>
    congr 1
    refine List.filter_congr fun r _ => ?_
    by_cases e : r.port = q
    · simp [e, ne]
    · simp [e]

/-- A fill without the abort reply of port `p`. -/
def letGo (p : Port) (f : Fill) : Fill :=
  match f.abortReply with
  | some (q, t) => { f with abortReply := if q = p then none else some (q, t) }
  | none => f

theorem dropRequests_eq (s : State) (p : Port) : s.dropRequests p = { s with
    mgmt := {
      queue := s.mgmt.queue.filter fun q => decide (q.port ≠ p)
      unit := if s.mgmt.unit = .stopped p then .free else s.mgmt.unit }
    fill := s.fill.map (letGo p) } := rfl

theorem abortReply_letGo (p : Port) (f : Fill) :
    (letGo p f).abortReply = f.abortReply.bind fun x => if x.1 = p then none else some x := by
  unfold letGo
  split
  · next h => rw [h]; rfl
  · next h => rw [h]; rfl

theorem aborting_letGo (fill : Option Fill) (p q : Port) :
    aborting (fill.map (letGo p)) q = if q = p then 0 else aborting fill q := by
  unfold aborting
  cases fill with
  | none => simp
  | some f =>
    simp only [Option.map_some, Option.bind_some, abortReply_letGo]
    cases f.abortReply with
    | none => simp
    | some x =>
      obtain ⟨r, tag⟩ := x
      simp only [Option.bind_some]
      by_cases hr : r = p
      · subst hr
        by_cases hq : q = r
        · simp [hq]
        · simp [hq, Ne.symm hq]
      · by_cases hq : q = p
        · subst hq
          simp [hr]
        · simp [hr, hq]

theorem abortSound_letGo {fill : Option Fill} (h : AbortSound fill) (p : Port) : AbortSound (fill.map (letGo p)) := by
  intro f' hf' running
  obtain ⟨f, hf, rfl⟩ := Option.map_eq_some_iff.1 hf'
  have same : (letGo p f).aborting = f.aborting := by
    unfold letGo
    split <;> rfl
  rw [abortReply_letGo, h f hf (same ▸ running)]
  rfl

theorem Owing.dropRequests (h : Owing mem mgmt s) (down : s.linkActive p = false) : Owing mem mgmt (s.dropRequests p) := by
  have held : ∀ q, (s.dropRequests p).mgmtHeld q = if q = p then 0 else s.mgmtHeld q := by
    intro q
    rw [mgmtHeld_eq, mgmtHeld_eq, dropRequests_eq]
    simp only [queued_filter_ne, aborting_letGo]
    split <;> rfl
  refine ⟨h.wf, h.parts, abortSound_letGo h.aborts p, fun q => ?_, h.memory, fun q active => ?_⟩
  · have := h.few q
    rw [held]
    split <;> omega
  · have ne : q ≠ p := by
      rintro rfl
      have : s.linkActive q = true := active
      rw [down] at this
      cases this
    rw [held, if_neg ne]
    exact h.management q active

theorem linkActive_eq_false {q : Port} : s.linkActive q = false ↔ (s.link q).state ≠ .active := by simp [State.linkActive]

theorem state_link_returnCredit (s : State) (p q : Port) (cls : RequestClass) :
    ((s.returnCredit q cls).link p).state = (s.link p).state := by
  unfold State.returnCredit
  split
  · by_cases e : p = q
    · subst e
      rw [link_setLink_self]
      cases cls <;> rfl
    · rw [link_setLink_of_ne _ _ _ _ e]
  · rfl

theorem state_link_freeSlotOf (s : State) (p : Port) (slot : Nat) :
    ((s.freeSlotOf slot).link p).state = (s.link p).state := by
  unfold State.freeSlotOf
  split
  · rfl
  · split
    · cases p <;> rfl
    · rw [state_link_returnCredit]
      cases p <;> rfl

theorem state_link_barrierDone (s : State) (p : Port) (slot : Nat) (e : Entry) :
    ((s.barrierDone slot e).link p).state = (s.link p).state := by
  unfold State.barrierDone
  split
  · rfl
  · next q _ _ _ _ =>
    split
    · exact state_link_freeSlotOf s p slot
    · cases p <;> cases q <;> rfl

theorem state_link_foldBarriers (l : List (Nat × Entry)) (s : State) (p : Port) :
    ((l.foldl (fun s x => s.barrierDone x.1 x.2) s).link p).state = (s.link p).state := by
  induction l generalizing s with
  | nil => rfl
  | cons x t ih => rw [List.foldl_cons, ih, state_link_barrierDone]

theorem state_link_reevaluatePass (s : State) (p : Port) : (s.reevaluatePass.link p).state = (s.link p).state := by
  unfold State.reevaluatePass
  rw [state_link_foldBarriers]
  cases p <;> rfl

theorem state_link_reevaluateFor (n : Nat) (s : State) (p : Port) :
    ((Machine.reevaluateFor n s).link p).state = (s.link p).state := by
  induction n generalizing s with
  | zero => exact state_link_reevaluatePass s p
  | succ n ih =>
    unfold Machine.reevaluateFor
    split
    · rw [ih, state_link_reevaluatePass]
    · exact state_link_reevaluatePass s p

theorem state_link_reevaluate (s : State) (p : Port) : (s.reevaluate.link p).state = (s.link p).state :=
  state_link_reevaluateFor _ s p

theorem state_link_orphanPort (s : State) (p q : Port) : ((s.orphanPort p).link q).state = (s.link q).state := by
  unfold State.orphanPort
  simp only
  rw [state_link_reevaluate]
  cases p <;> cases q <;> rfl

theorem Owing.linkDown (h : Owing mem mgmt s) (p : Port) (why : DownReason) : Owing mem mgmt (s.linkDown p why) := by
  unfold State.linkDown
  split
  · simp only
    generalize hu : (if downFrameSent why = true then _ else s : State) = u
    have told : Owing mem mgmt u := by
      subst hu
      split
      · exact h.unseen (unseen_emit s p _)
      · exact h
    have cleared : Owing mem mgmt (u.setLink p Link.cleared) := told.deactivate nofun
    have down : (u.setLink p Link.cleared).linkActive p = false := by
      rw [linkActive_eq_false, link_setLink_self]
      exact nofun
    have downAfter : ((u.setLink p Link.cleared).orphanPort p).linkActive p = false := by
      rw [linkActive_congr (state_link_orphanPort _ p p)]
      exact down
    exact ((cleared.orphanPort down).dropRequests downAfter).unseen (unseen_removeVote _ p)
  · exact h

end Sys2Proof.Machine.Accounts
end

section
/-! The credit accounts, kept (R20, R144): every operation that spends a credit also pays it, so every step ends balanced,
no request meets a full partition, and the counts stay in range. -/

namespace Sys2Proof.Machine.Accounts

open Sys2Proof.Machine.Steps

variable {mem mgmt : Port → Nat} {s t : State} {p : Port}

/-! ### New entries -/

theorem inPartition_not_of_ge {k : Nat} (h : 96 ≤ k) (q : Port) : ¬ inPartition q k := by
  unfold inPartition
  cases q <;> simp only [partitionStart] <;> omega

/-- An entry of maintenance work takes a slot outside both partitions. -/
theorem Owing.setEntry_maintenance (h : Owing mem mgmt s) {k : Nat} {e : Entry} (new : s.entry k = none) (range : 96 ≤ k)
    (own : e.owner.port? = none) : Owing mem mgmt (s.setEntry k e) := by
  refine h.setTable (Sparse.wf_insert h.wf k e) (fun x hx q => ?_) fun q _ => ?_
  · rcases Sparse.mem_insert hx with rfl | hx
    · rw [own]
      exact ⟨nofun, fun inside => absurd inside (inPartition_not_of_ge range q)⟩
    · exact h.parts x hx q
  · rw [countKeys_insert_new _ _ new, if_neg (by simpa [inPartition] using inPartition_not_of_ge range q)]
    rfl

/-- A port's entry takes a slot of its partition: the credit owed is spent. -/
theorem Owing.setEntry_port (h : Owing (mem + owe p) mgmt s) {k : Nat} {e : Entry} (new : s.entry k = none)
    (range : inPartition p k) (own : e.owner.port? = some p) : Owing mem mgmt (s.setEntry k e) where
  wf := Sparse.wf_insert h.wf k e
  parts x hx q := by
    rcases Sparse.mem_insert hx with rfl | hx
    · rw [own]
      exact ⟨fun e => by cases e; exact range, fun inside => by rw [partition_unique range inside]⟩
    · exact h.parts x hx q
  aborts := h.aborts
  few := h.few
  management := h.management
  memory q active := by
    have inserted := countKeys_insert_new (fun k => decide (partitionStart q ≤ k ∧ k < partitionStart q + 48)) e new
    have balance := h.memory q active
    rw [heldByPort_eq] at balance ⊢
    rw [Pi.add_apply] at balance
    have held : countKeys (fun k => decide (partitionStart q ≤ k ∧ k < partitionStart q + 48)) (s.setEntry k e).table =
        countKeys (fun k => decide (partitionStart q ≤ k ∧ k < partitionStart q + 48)) s.table + owe p q := by
      by_cases same : q = p
      · subst same
        rw [if_pos (by simpa [inPartition] using range)] at inserted
        rw [owe_self]
        exact inserted
      · rw [if_neg (by simpa using fun hq hk => same (partition_unique range ⟨hq, hk⟩))] at inserted
        rw [owe_of_ne same]
        exact inserted
    rw [held]
    simp only [State.setEntry, State.link, State.port] at balance ⊢
    omega

theorem Owing.placed (h : Owing mem mgmt (s.setEntry k e)) : Owing mem mgmt (s.place k e) := by
  unfold State.place
  simp only
  split
  · exact h.barrierDone k e
  · exact h

theorem owner_newEntry (s : State) (owner : Owner) (kind : EntryKind) (first count age : Nat) (data : List (List Byte)) :
    (s.newEntry owner kind first count age data).owner = owner := by
  unfold State.newEntry
  simp only
  rw [owner_reheld]

theorem unseen_at (s : State) (n : Time) : Unseen s (s.at n) := .of

theorem unseen_takeAge (s : State) : Unseen s s.takeAge := .of

theorem Owing.admission (h : Owing (mem + owe p) mgmt s) {slot : Nat} (new : s.entry slot = none) (range : inPartition p slot)
    (tag : Byte) (r : MemRequest) : Owing mem mgmt (s.admission p tag r slot) := by
  unfold State.admission
  simp only
  refine Owing.unseen (Owing.unseen (Owing.placed ?_) (unseen_endNap _)) (unseen_removeVote _ p)
  exact (h.unseen (unseen_takeAge s)).setEntry_port new range (by rw [owner_newEntry]; rfl)

theorem maintenanceSlot_new {kind : EntryKind} {slot : Nat} (h : s.maintenanceSlot kind = some slot) :
    s.entry slot = none ∧ 96 ≤ slot := by
  unfold State.maintenanceSlot at h
  split at h
  · cases h
  · obtain ⟨low, -, new, -⟩ := freeSlot_eq_some h
    exact ⟨new, low⟩

theorem Owing.maintenanceAdmission (h : Owing mem mgmt s) {slot : Nat} (new : s.entry slot = none) (range : 96 ≤ slot)
    (kind : EntryKind) (first age : Nat) (data : List (List Byte)) :
    Owing mem mgmt (s.maintenanceAdmission kind first age data slot) := by
  unfold State.maintenanceAdmission
  exact (h.setEntry_maintenance new range (by rw [owner_newEntry]; rfl)).placed.unseen (unseen_endNap _)

/-! ### Control messages -/

theorem Owing.placeControl (h : Owing mem mgmt s) (p : Port) (m : Message) : Owing mem mgmt (s.placeControl p m) := by
  unfold State.placeControl
  split
  · simp only
    split
    · exact h.linkDown p _
    · exact h.unseen (unseen_setLink s p (by exact .refl _))
  · exact h

theorem Owing.replyAndLetGo (h : Owing mem (mgmt + owe p) s) (m : Message) : Owing mem mgmt (s.replyAndLetGo p m) :=
  (h.placeControl p m).returnManagement

theorem Owing.refuseMemory (h : Owing (mem + owe p) mgmt s) (head : BodyHead) (why : Reason) :
    Owing mem mgmt (s.refuseMemory p head why) :=
  (h.placeControl p _).returnMemory

/-! ### Scrub steps -/

theorem unseen_setScrub (s : State) (scrub : Scrub) : Unseen s { s with scrub := scrub } := .of

theorem Owing.takeStep (h : Owing mem mgmt s) {slot : Nat} (chosen : s.stepSlot = some slot) :
    Owing mem mgmt (s.takeStep slot) := by
  unfold State.stepSlot at chosen
  split at chosen
  · cases chosen
  · obtain ⟨new, range⟩ := maintenanceSlot_new chosen
    unfold State.takeStep
    exact ((h.unseen (unseen_takeAge s)).maintenanceAdmission new range _ _ _ _).unseen (unseen_setScrub _ _)

theorem Owing.takePendingStep (h : Owing mem mgmt s) : Owing mem mgmt s.takePendingStep := by
  unfold State.takePendingStep
  split
  · split
    · next chosen => exact (h.takeStep chosen).unseen (unseen_setScrub _ _)
    · exact h
  · exact h

theorem Owing.stepFallsDue (h : Owing mem mgmt s) : Owing mem mgmt s.stepFallsDue := by
  unfold State.stepFallsDue
  split
  · next chosen => exact h.takeStep chosen
  · exact h.unseen (unseen_setScrub _ _)

/-! ### The fill record -/

/-- The fill record changes; the abort reply that waited is now owed, or one that was owed now waits. -/
theorem Owing.setFill (h : Owing mem mgmt s) {fill : Option Fill} {mgmt' : Port → Nat} (sound : AbortSound fill)
    (same : ∀ q, aborting fill q + mgmt' q = aborting s.fill q + mgmt q) :
    Owing mem mgmt' { s with fill := fill } := by
  have held : ∀ q, State.mgmtHeld { s with fill := fill } q + mgmt' q = s.mgmtHeld q + mgmt q := fun q => by
    have := same q
    rw [mgmtHeld_eq, mgmtHeld_eq]
    simp only
    omega
  refine ⟨h.wf, h.parts, sound, fun q => (held q).trans_le (h.few q), h.memory, fun q active => ?_⟩
  have := h.management q active
  have := held q
  simp only [State.link, State.port] at *
  omega

/-- The fill goes on, its abort as it was. -/
theorem Owing.updateFill (h : Owing mem mgmt s) {f f' : Fill} (hf : s.fill = some f) (state : f'.aborting = f.aborting)
    (reply : f'.abortReply = f.abortReply) : Owing mem mgmt { s with fill := some f' } := by
  refine h.setFill ?_ fun q => ?_
  · rintro _ ⟨⟩ running
    rw [reply]
    exact h.aborts f hf (state ▸ running)
  · rw [hf]
    simp only [aborting, Option.bind_some, reply]

theorem fill_maintenanceAdmission (s : State) (kind : EntryKind) (first age : Nat) (data : List (List Byte)) (slot : Nat) :
    (s.maintenanceAdmission kind first age data slot).fill = s.fill := by
  unfold State.maintenanceAdmission
  obtain ⟨_, _, _, h⟩ := touchesTable_place s slot (s.newEntry .maintenance kind first 8 age data)
  rw [endNap_eq, h]

theorem Owing.createFillEntry (h : Owing mem mgmt s) : Owing mem mgmt s.createFillEntry := by
  unfold State.createFillEntry
  split
  · exact h
  · next f hf =>
    split
    · split
      · exact h
      · next chosen =>
        obtain ⟨new, range⟩ := maintenanceSlot_new chosen
        exact (h.maintenanceAdmission new range _ _ _ _).updateFill ((fill_maintenanceAdmission ..).trans hf) rfl rfl
    · exact h

theorem Owing.createFillEntries (h : Owing mem mgmt s) : Owing mem mgmt s.createFillEntries :=
  h.createFillEntry.createFillEntry.createFillEntry

/-- The fill is over: an abort reply that waited is owed. -/
theorem Owing.removeFill (h : Owing mem mgmt s) : Owing mem (mgmt + aborting s.fill) s.removeFill := by
  have gone : Owing mem (mgmt + aborting s.fill) { s with fill := none } :=
    h.setFill nofun fun q => by rw [Pi.add_apply]; simp only [aborting, Option.bind_none]; omega
  exact gone.reevaluate.takePendingStep

theorem aborting_some {f : Fill} {tag : Byte} (h : f.abortReply = some (p, tag)) : aborting (some f) = owe p := by
  funext q
  simp only [aborting, Option.bind_some, h, owe, eq_comm]

theorem aborting_none {f : Fill} (h : f.abortReply = none) : aborting (some f) = 0 := by
  funext q
  simp only [aborting, Option.bind_some, h]
  rfl

theorem Owing.fillEntryFreed (h : Owing mem mgmt s) : Owing mem mgmt s.fillEntryFreed := by
  unfold State.fillEntryFreed
  split
  · exact h.reevaluate
  · next f hf =>
    simp only
    have counted : Owing mem mgmt { s with fill := some { f with inFlight := f.inFlight - 1 } } := h.updateFill hf rfl rfl
    have created := counted.createFillEntries
    generalize State.createFillEntries { s with fill := some { f with inFlight := f.inFlight - 1 } } = u at created ⊢
    split
    · exact created.reevaluate
    · next g hg =>
      have removed := created.removeFill
      rw [hg] at removed
      split
      · exact created.reevaluate
      · split
        · split
          · next none =>
            rw [aborting_none none, add_zero] at removed
            exact removed
          · next waits =>
            rw [aborting_some waits] at removed
            exact removed.replyAndLetGo _
        · next running =>
          rw [aborting_none (created.aborts g hg (Bool.eq_false_of_not_eq_true running)), add_zero] at removed
          split
          · exact removed.unseen (unseen_raiseNotice _ _ _)
          · exact created.reevaluate

/-! ### Entries that become DONE -/

theorem Owing.entryDone (h : Owing mem mgmt s) {slot : Nat} {e e' : Entry} (he : s.entry slot = some e)
    (own : e'.owner = e.owner) : Owing mem mgmt (s.entryDone slot e') := by
  unfold State.entryDone
  split
  · split
    · exact (h.freeSlotOf slot).reevaluate
    · have kept : Owing mem mgmt (s.setEntry slot { e' with state := .done }) :=
        h.setEntry he (by simp only [own])
      exact kept.unseen (unseen_setPort _ _ (by exact .refl _))
  · next maintenance =>
    have freed := h.clear_maintenance he (by rw [← own, maintenance]; rfl)
    simp only
    split
    · exact freed.fillEntryFreed
    · exact freed.reevaluate.takePendingStep

theorem owner_afterAtomicRead (e : Entry) (op : AtomicOp) (offset : Nat) (o1 o2 : BitVec 64) (b : ReadBlock) :
    (e.afterAtomicRead op offset o1 o2 b).owner = e.owner := by
  unfold Entry.afterAtomicRead
  split <;> rfl

theorem owner_afterRead (e : Entry) (correct : Bool) (blocks : List ReadBlock) :
    (e.afterRead correct blocks).owner = e.owner := by
  unfold Entry.afterRead
  simp only
  split
  case h_2 => exact owner_afterAtomicRead ..
  all_goals rfl

theorem owner_afterWrite (e : Entry) : e.afterWrite.owner = e.owner := by
  unfold Entry.afterWrite
  split
  · rfl
  · split <;> rfl

theorem Owing.entryRead (h : Owing mem mgmt s) {slot : Nat} {e : Entry} (he : s.entry slot = some e)
    (blocks : List ReadBlock) : Owing mem mgmt (s.entryRead slot e blocks) := by
  unfold State.entryRead
  simp only
  have reported : Unseen s (List.foldl (fun s p => s.takeReport e.source (e.first + p)) s
      (e.reportedPositions (e.afterRead s.store.correctOnRead blocks).classes)) :=
    unseen_foldl (fun s _ => unseen_takeReport s _ _) _ s
  generalize List.foldl _ s _ = u at reported ⊢
  have same : u.entry slot = some e := by
    unfold State.entry
    rw [reported.table]
    exact he
  have owner := owner_afterRead e s.store.correctOnRead blocks
  split
  · exact (h.unseen reported).entryDone same owner
  · exact (h.unseen reported).setEntry same (by simp only [owner])

theorem Owing.readEnds (h : Owing mem mgmt s) (f : Flight) : Owing mem mgmt (s.readEnds f) := by
  unfold State.readEnds
  simp only
  generalize hu : State.setBank _ f.bank _ = u
  have ended : Unseen s u := by
    subst hu
    exact .of
  split
  · exact (h.unseen ended).unseen (unseen_settleRunDown u)
  · have counted : Unseen s (u.countCorrected f.bank (correctedIn ((s.at f.due).readRange f.first f.count))) :=
      ended.trans .of
    split
    · exact h.unseen counted
    · next he => exact (h.unseen counted).entryRead he _

theorem Owing.writeEnds (h : Owing mem mgmt s) (f : Flight) : Owing mem mgmt (s.writeEnds f) := by
  unfold State.writeEnds
  simp only
  have written : Unseen s ((s.at f.due).writeBlocks f.writes) := (unseen_at s f.due).trans (unseen_writeBlocks _ f.writes)
  generalize (s.at f.due).writeBlocks f.writes = w at written ⊢
  generalize hu : State.setBank _ f.bank _ = u
  have ended : Unseen s u := by
    subst hu
    exact written.trans .of
  split
  · exact (h.unseen ended).unseen (unseen_settleRunDown u)
  · split
    · exact h.unseen ended
    · next he => exact (h.unseen ended).entryDone he (owner_afterWrite _)

/-! ### Grants -/

/-- Of some entries, the oldest is one of them. -/
theorem mem_of_oldestOf {l : List (Nat × Entry)} {x : Nat × Entry} (h : oldestOf l = some x) : x ∈ l := by
  refine List.foldlRecOn (motive := fun best => ∀ x, best = some x → x ∈ l) l _ (fun _ e => by cases e) ?_ x h
  intro best among y hy z hz
  split at hz
  · cases hz
    exact hy
  · split at hz
    · cases hz
      exact hy
    · exact among z hz

theorem firstAccessChoice_mem {slot : Nat} {e : Entry} (h : s.firstAccessChoice = some (slot, e)) :
    (slot, e) ∈ s.table ∧ e.state = .queued := by
  unfold State.firstAccessChoice at h
  split at h
  · cases h
  · obtain ⟨mem, chosen⟩ := List.mem_filter.1 (mem_of_oldestOf h)
    simp only [State.rowHit, Bool.and_eq_true, decide_eq_true_eq] at chosen
    exact ⟨mem, chosen.1.1⟩

theorem Owing.grantFirst (h : Owing mem mgmt s) {slot : Nat} {e : Entry} (chosen : s.firstAccessChoice = some (slot, e)) :
    Owing mem mgmt (s.grantFirst slot e) := by
  have granted : Owing mem mgmt (s.setEntry slot { e with state := .inAccess }) :=
    h.setEntry (Sparse.find?_of_mem h.wf (firstAccessChoice_mem chosen).1) rfl
  exact granted.unseen .of

/-! ### The arbiter -/

theorem Owing.arbiterTake (h : Owing mem mgmt s) (p : Port) : Owing mem mgmt (s.arbiterTake p) := by
  unfold State.arbiterTake
  split
  · unfold State.takeControl
    exact (h.unseen (unseen_setLink s p (by exact .refl _))).unseen (unseen_sendMessage _ p _)
  · split
    · split
      · unfold State.takeReply
        simp only
        refine Owing.unseen (Owing.reevaluate (Owing.freeSlotOf ?_ _)) (unseen_sendMessage _ p _)
        exact h.unseen (unseen_setPort s p (by exact .refl _))
      · exact h
    · split
      · unfold State.takeNotice
        simp only
        exact (h.unseen (unseen_setLink s p (by exact .refl _))).unseen (unseen_sendMessage _ p _)
      · exact h

/-! ### Acceptance -/

/-- The memory credit a message took. -/
def tookMemory (p : Port) (cls : Option RequestClass) : Port → Nat := if cls = some .memory then owe p else 0

/-- The management credit a message took. -/
def tookManagement (p : Port) (cls : Option RequestClass) : Port → Nat := if cls = some .management then owe p else 0

theorem Owing.acceptFrame (h : Owing 0 0 s) (active : s.linkActive p = true) {cls : Option RequestClass}
    (credit : (s.link p).noCredit cls = false) :
    Owing (tookMemory p cls) (tookManagement p cls) (s.acceptFrame p cls) := by
  have hm := h.memory p active
  have hg := h.management p active
  have taken : Owing (tookMemory p cls) (tookManagement p cls) (s.setLink p ((s.link p).accepted s.now cls)) := by
    rw [accepted_eq]
    rcases cls with _ | _ | _
    · exact h.unseen (unseen_setLink s p (by exact .refl _))
    · have some : (s.link p).memOut ≠ 0 := of_decide_eq_false credit
      refine h.pay rfl (fun q ne => ⟨by simp [tookMemory, owe_of_ne ne], by simp [tookManagement]⟩)
        (by simpa [tookManagement] using h.few p) ?_ (by simp [tookManagement])
      simp only [tookMemory, if_true, owe_self, Pi.zero_apply]
      omega
    · have some : (s.link p).mgmtOut ≠ 0 := of_decide_eq_false credit
      simp only [Pi.zero_apply] at hg
      refine h.pay rfl (fun q ne => ⟨by simp [tookMemory], by simp [tookManagement, owe_of_ne ne]⟩) ?_
        (by simp [tookMemory]) ?_
      · simp only [tookManagement, if_true, owe_self]
        omega
      · simp only [tookManagement, if_true, owe_self, Pi.zero_apply]
        omega
  unfold State.acceptFrame
  simp only
  split
  · exact taken.unseen (unseen_sendAck _ p)
  · exact taken

/-- A message refused: what it took comes back. -/
theorem Owing.refuseMessage {cls : Option RequestClass} (h : Owing (tookMemory p cls) (tookManagement p cls) s)
    (head : BodyHead) (why : Reason) : Owing 0 0 (s.refuseMessage p head cls why) := by
  unfold State.refuseMessage
  have placed : Owing _ _ (s.placeRefused p head why) := h.placeControl p _
  rcases cls with _ | _ | _
  · exact placed
  · exact Owing.returnMemory (p := p) (by simpa [tookMemory, tookManagement] using placed)
  · exact Owing.returnManagement (p := p) (by simpa [tookMemory, tookManagement] using placed)

theorem Owing.intake (h : Owing (mem + owe p) mgmt s) {head : BodyHead} {r : MemRequest} (k : s.intake p head r = some t) :
    Owing mem mgmt t := by
  unfold State.intake at k
  split at k
  · cases k
    exact h.refuseMemory head _
  · obtain ⟨slot, free, rfl⟩ := Option.map_eq_some_iff.1 k
    obtain ⟨low, high, new, -⟩ := freeSlot_eq_some free
    exact h.admission new ⟨low, high⟩ head.tag r

theorem queued_append (queue : List HeldRequest) (p : Port) (tag : Byte) (r : MgmtRequest) (q : Port) :
    queued (queue ++ [⟨p, tag, r⟩]) q = queued queue q + owe p q := by
  unfold queued owe
  rw [List.filter_append, List.length_append]
  congr 1
  by_cases e : p = q
  · simp [e]
  · simp [e, Ne.symm e]

theorem queued_cons (x : HeldRequest) (queue : List HeldRequest) (q : Port) :
    queued (x :: queue) q = queued queue q + owe x.port q := by
  unfold queued owe
  rw [List.filter_cons]
  by_cases e : x.port = q
  · simp [e]
  · simp [e, Ne.symm e]

/-- The queue changes; what it no longer holds is owed, what it holds anew was. -/
theorem Owing.setQueue (h : Owing mem mgmt s) {held : Management} {mgmt' : Port → Nat}
    (same : ∀ q, queued held.queue q + mgmt' q = queued s.mgmt.queue q + mgmt q) :
    Owing mem mgmt' { s with mgmt := held } := by
  have sum : ∀ q, State.mgmtHeld { s with mgmt := held } q + mgmt' q = s.mgmtHeld q + mgmt q := fun q => by
    have := same q
    rw [mgmtHeld_eq, mgmtHeld_eq]
    simp only
    omega
  refine ⟨h.wf, h.parts, h.aborts, fun q => (sum q).trans_le (h.few q), h.memory, fun q active => ?_⟩
  have := h.management q active
  have := sum q
  simp only [State.link, State.port] at *
  omega

theorem Owing.enqueue (h : Owing mem (mgmt + owe p) s) (tag : Byte) (r : MgmtRequest) :
    Owing mem mgmt (s.enqueue p tag r) :=
  h.setQueue fun q => by
    rw [queued_append, Pi.add_apply]
    omega

theorem Owing.route {m : Parsed} (h : Owing (tookMemory p m.creditClass) (tookManagement p m.creditClass) s)
    {head : BodyHead} (understood : s.decoderRefusal p head m = none) (k : s.route p head m = some t) : Owing 0 0 t := by
  cases m with
  | memory r => exact Owing.intake (p := p) (by simpa [tookMemory, tookManagement, Parsed.creditClass] using h) k
  | management r =>
    cases k
    exact Owing.enqueue (p := p) (by simpa [tookMemory, tookManagement, Parsed.creditClass] using h) head.tag r
  | unknownKind => cases understood
  | malformed cls => cases understood

theorem Owing.acceptMessage (h : Owing 0 0 s) (active : s.linkActive p = true) {head : BodyHead} {m : Parsed}
    (k : s.acceptMessage p head m = some t) : Owing 0 0 t := by
  unfold State.acceptMessage at k
  simp only at k
  split at k
  · cases k
    exact h.linkDown p _
  · next credit =>
    have accepted := h.acceptFrame active (Bool.eq_false_of_not_eq_true credit)
    split at k
    · cases k
      exact accepted.refuseMessage head _
    · next understood => exact accepted.route understood k

/-! ### Management requests -/

theorem Owing.answerOk (h : Owing mem (mgmt + owe p) s) (tag : Byte) (kind : Nat) (block extra : BitVec 32)
    (payload : List Byte) : Owing mem mgmt (s.answerOk p tag kind block extra payload) := h.replyAndLetGo _

theorem Owing.answerFail (h : Owing mem (mgmt + owe p) s) (tag : Byte) (kind : Nat) (why : Reason) :
    Owing mem mgmt (s.answerFail p tag kind why) := h.replyAndLetGo _

theorem Owing.answerBadKey (h : Owing mem (mgmt + owe p) s) (tag : Byte) (kind : Nat) (key : BitVec 32) :
    Owing mem mgmt (s.answerBadKey p tag kind key) := h.replyAndLetGo _

theorem Owing.answerKey (h : Owing mem (mgmt + owe p) s) (tag : Byte) (kind : Nat) (key : BitVec 32) :
    Owing mem mgmt (s.answerKey p tag kind key) := h.answerOk ..

theorem Owing.answerSlot (h : Owing mem (mgmt + owe p) s) (tag : Byte) (kind : Nat) (slot : Fin 8) :
    Owing mem mgmt (s.answerSlot p tag kind slot) := by
  unfold State.answerSlot
  split
  · exact h.answerOk ..
  · exact h.answerOk ..

theorem Owing.takeConfigGet (h : Owing mem (mgmt + owe p) s) (tag : Byte) (key : BitVec 32) :
    Owing mem mgmt (Machine.takeConfigGet p tag key s) := by
  unfold Machine.takeConfigGet
  split
  · exact h.answerFail ..
  · split
    · exact h.answerBadKey ..
    · exact h.answerKey ..

theorem unseen_applyKey (s : State) (key : Nat) : Unseen s (s.applyKey key) := by
  unfold State.applyKey
  split
  · exact .of
  · split
    · exact unseen_setScrub s _
    · exact .refl s

theorem unseen_setStore (s : State) (store : Store) : Unseen s { s with store := store } := .of

theorem Owing.takeConfigSet (h : Owing mem (mgmt + owe p) s) (tag : Byte) (key value : BitVec 32) :
    Owing mem mgmt (Machine.takeConfigSet p tag key value s) := by
  unfold Machine.takeConfigSet
  split
  · exact h.answerFail ..
  · split
    · exact h.answerBadKey ..
    · split
      · exact h.answerFail ..
      · split
        · exact h.answerBadKey ..
        · exact Owing.answerKey ((h.unseen (unseen_setStore s _)).unseen (unseen_applyKey _ _)) ..

theorem unseen_clearCounts (s : State) : Unseen s s.clearCounts := by
  unfold State.clearCounts State.mapBanks
  exact .of

theorem Owing.takeStatus (h : Owing mem (mgmt + owe p) s) (tag : Byte) (clear : Bool) :
    Owing mem mgmt (Machine.takeStatus p tag clear s) := by
  unfold Machine.takeStatus
  simp only
  split
  · exact Owing.answerOk (h.unseen (unseen_clearCounts s)) ..
  · exact h.answerOk ..

theorem Owing.takeRegionGet (h : Owing mem (mgmt + owe p) s) (tag slot : Byte) :
    Owing mem mgmt (Machine.takeRegionGet p tag slot s) := by
  unfold Machine.takeRegionGet
  split
  · exact h.answerFail ..
  · split
    · exact h.answerSlot ..
    · exact h.answerFail ..

theorem unseen_setRegions (s : State) (regions : Vector (Option Region) 8) : Unseen s { s with regions := regions } := .of

theorem Owing.takeRegionSet (h : Owing mem (mgmt + owe p) s) (tag slot : Byte) (first count : BitVec 32)
    (enable rightsA rightsB : Byte) :
    Owing mem mgmt (Machine.takeRegionSet p tag slot first count enable rightsA rightsB s) := by
  unfold Machine.takeRegionSet
  split
  · exact h.answerFail ..
  · split
    · exact h.answerFail ..
    · split
      · split
        · exact h.answerFail ..
        · exact Owing.answerSlot (h.unseen (unseen_setRegions s _)) ..
      · exact h.answerFail ..

theorem Owing.takeErrorFetch (h : Owing mem (mgmt + owe p) s) (tag : Byte) :
    Owing mem mgmt (Machine.takeErrorFetch p tag s) := by
  unfold Machine.takeErrorFetch
  split
  · exact h.answerFail ..
  · split
    · exact h.replyAndLetGo _
    · exact h.answerOk ..

theorem Owing.takeErrorClear (h : Owing mem (mgmt + owe p) s) (tag : Byte) (number : BitVec 32) :
    Owing mem mgmt (Machine.takeErrorClear p tag number s) := by
  unfold Machine.takeErrorClear
  split
  · exact h.answerFail ..
  · split
    · exact Owing.answerOk (h.unseen (unseen_setErrors s _)) ..
    · exact h.answerFail ..

theorem Owing.acceptFill (h : Owing mem (mgmt + owe p) s) (none : s.fill = none) (tag : Byte) (first count : BitVec 32)
    (pattern : BitVec 64) : Owing mem mgmt (s.acceptFill p tag first count pattern) := by
  unfold State.acceptFill
  simp only
  refine Owing.answerOk (Owing.unseen (Owing.reevaluate (Owing.createFillEntries ?_)) (unseen_removeVote _ p)) ..
  refine (h.unseen (unseen_takeAge s)).setFill ?_ fun q => ?_
  · rintro _ ⟨⟩ -
    rfl
  · have same : s.takeAge.fill = s.fill := rfl
    rw [same, none]
    rfl

theorem Owing.takeFillStart (h : Owing mem (mgmt + owe p) s) (tag : Byte) (first count : BitVec 32) (pattern : BitVec 64) :
    Owing mem mgmt (Machine.takeFillStart p tag first count pattern s) := by
  unfold Machine.takeFillStart
  split
  · exact h.answerFail ..
  · split
    · exact h.answerFail ..
    · split
      · exact h.answerFail ..
      · next idle =>
        split
        · exact h.answerFail ..
        · exact h.acceptFill (by simpa using idle) ..

/-- A FILL-ABORT that passes waits in the fill record. -/
theorem Owing.takeFillAbort (h : Owing mem (mgmt + owe p) s) (tag : Byte) :
    Owing mem mgmt (Machine.takeFillAbort p tag s) := by
  unfold Machine.takeFillAbort
  split
  · exact h.answerFail ..
  · split
    · exact h.answerFail ..
    · next f hf =>
      split
      · exact h.answerFail ..
      · next running =>
        refine h.setFill ?_ fun q => ?_
        · rintro _ ⟨⟩ ⟨⟩
        · rw [hf, aborting_none (h.aborts f hf (Bool.eq_false_of_not_eq_true running)), aborting_some rfl, Pi.add_apply]
          simp only [Pi.zero_apply]
          omega

theorem Owing.takeRetainVote (h : Owing mem (mgmt + owe p) s) (tag : Byte) :
    Owing mem mgmt (Machine.takeRetainVote p tag s) := by
  unfold Machine.takeRetainVote
  split
  · exact h.answerFail ..
  · split
    · exact h.answerFail ..
    · split
      · exact h.answerOk ..
      · exact Owing.answerOk ((h.unseen (unseen_setVote s p true)).unseen (unseen_raiseNotice _ _ _)) ..

theorem Owing.takeRetainWithdraw (h : Owing mem (mgmt + owe p) s) (tag : Byte) :
    Owing mem mgmt (Machine.takeRetainWithdraw p tag s) := by
  unfold Machine.takeRetainWithdraw
  split
  · exact h.answerFail ..
  · exact Owing.answerOk (h.unseen (unseen_removeVote s p)) ..

theorem Owing.takeCalibrate (h : Owing mem (mgmt + owe p) s) (tag : Byte) :
    Owing mem mgmt (Machine.takeCalibrate p tag s) := by
  unfold Machine.takeCalibrate
  split
  · exact h.answerFail ..
  · exact Owing.answerOk (h.unseen (unseen_calTrigger s .long)) ..

theorem unseen_setUnit (s : State) (unit : UnitState) : Unseen s { s with mgmt := { s.mgmt with unit := unit } } := .of

theorem Owing.takeRestart (h : Owing mem (mgmt + owe p) s) (tag : Byte) :
    Owing mem mgmt (Machine.takeRestart p tag s) := by
  unfold Machine.takeRestart
  split
  · exact h.answerFail ..
  · split
    · exact h.answerFail ..
    · exact Owing.answerOk (h.unseen (unseen_setUnit s _)) ..

theorem Owing.takeRequest {x : HeldRequest} (h : Owing mem (mgmt + owe x.port) s) :
    Owing mem mgmt (Machine.takeRequest x s) := by
  unfold Machine.takeRequest
  split
  · exact h.takeConfigGet ..
  · exact h.takeConfigSet ..
  · exact h.takeStatus ..
  · exact h.takeRegionGet ..
  · exact h.takeRegionSet ..
  · exact h.takeErrorFetch ..
  · exact h.takeErrorClear ..
  · exact h.takeFillStart ..
  · exact h.takeFillAbort ..
  · exact h.takeRetainVote ..
  · exact h.takeRetainWithdraw ..
  · exact h.takeCalibrate ..
  · exact h.takeRestart ..

theorem Owing.take (h : Owing mem mgmt s) {x : HeldRequest} {rest : List HeldRequest} (hq : s.mgmt.queue = x :: rest) :
    Owing mem mgmt (Machine.takeRequest x { s with mgmt := { s.mgmt with queue := rest } }) := by
  refine Owing.takeRequest (h.setQueue fun q => ?_)
  rw [hq, queued_cons, Pi.add_apply]
  simp only
  omega

/-! ### Sessions -/

theorem heldByPort_le (w : Sparse.Wf s.table) (p : Port) : s.heldByPort p ≤ 48 := countKeys_le w _ _

theorem Owing.answerTrain (h : Owing 0 0 s) (p : Port) (revision : Byte) : Owing 0 0 (s.answerTrain p revision) := by
  have slots := heldByPort_le h.wf p
  have few := h.few p
  unfold State.answerTrain
  simp only
  refine Owing.unseen (h.setLink (fun _ _ => ⟨rfl, rfl⟩) few fun active => ?_) (unseen_emit _ p _)
  simp only [Pi.zero_apply] at few ⊢
  split
  · simp only [sessionStart, Link.cleared, State.memGrant, State.mgmtGrant]
    omega
  · next refused =>
    rw [if_neg refused] at active
    cases active

/-! ### The part as a whole -/

/-- With the table empty, nothing held and no link ACTIVE there is no account to balance. -/
theorem owing_of_idle (table : s.table = []) (fill : s.fill = none) (queue : s.mgmt.queue = [])
    (down : ∀ p, s.linkActive p = false) : Owing 0 0 s where
  wf := by rw [table]; exact List.Pairwise.nil
  parts x hx := by rw [table] at hx; cases hx
  aborts f hf := by rw [fill] at hf; cases hf
  few p := by
    rw [mgmtHeld_eq, fill, queue]
    exact Nat.zero_le _
  memory p active := by rw [down] at active; cases active
  management p active := by rw [down] at active; cases active

theorem unseen_startIntervalsIfStopped (s : State) : Unseen s s.startIntervalsIfStopped := by
  rw [startIntervalsIfStopped_eq]
  exact unseen_setBanks s _

theorem owing_resetLow (s : State) : Owing 0 0 s.resetLow := by
  unfold State.resetLow
  simp only
  refine Owing.unseen (Owing.unseen (Owing.unseen (owing_of_idle ?_ ?_ ?_ ?_) (unseen_setBanks _ _))
    (unseen_startIntervalsIfStopped _)) (unseen_settleRunDown _)
  · rfl
  · rfl
  · rfl
  · intro p
    cases p <;> rfl

theorem owing_powerUp (s : State) (high : Bool) : Owing 0 0 (s.powerUp high) := by
  have idle : Owing 0 0 { State.reset with
      now := s.now, powerOns := s.powerOns + 1, rstHigh := high, pending := s.pending
      portA := { PortRec.powerOn with tx := s.portA.tx }, portB := { PortRec.powerOn with tx := s.portB.tx } } :=
    owing_of_idle rfl rfl rfl fun p => by cases p <;> rfl
  unfold State.powerUp
  simp only
  split
  · exact idle
  · exact idle.unseen (unseen_setBanks _ _)

theorem unseen_ackProgress (s : State) (p : Port) (n : Nat) : Unseen s (s.ackProgress p n) := by
  unfold State.ackProgress State.noteRestart
  simp only
  split
  · exact (unseen_setLink s p (by exact .refl _)).trans (unseen_setUnit _ _)
  · exact unseen_setLink s p (by exact .refl _)

theorem Owing.sleep (h : Owing 0 0 s) : Owing 0 0 { s with portA := s.portA.sleeping, portB := s.portB.sleeping } where
  wf := h.wf
  parts := h.parts
  aborts := h.aborts
  few := h.few
  memory p active := by cases p <;> cases active
  management p active := by cases p <;> cases active

/-- Every update that the commands are made of keeps the accounts. -/
theorem keeps_owing : StepInvariant (Owing 0 0) where
  queue _ _ h := h.unseen .of
  later _ _ h _ := h.unseen .of
  lines _ _ _ _ h := h.unseen .of
  powerUp s high _ := owing_powerUp s high
  resetLow s _ := owing_resetLow s
  settle _ h := h.unseen .of
  settleRunDown s h := h.unseen (unseen_settleRunDown s)
  power _ _ h _ := h.unseen .of
  maint _ _ h _ := h.unseen .of
  banks s B h _ := h.unseen (unseen_setBanks s B)
  setCondition s block c h := h.unseen (unseen_setMemory s _ _)
  grantOpening _ _ _ h _ := h.unseen .of
  windowSlot _ _ _ h _ := h.unseen .of
  calRun _ _ h := h.unseen .of
  firstAccess _ _ _ h chosen := h.grantFirst chosen
  writeBack _ _ _ h _ := h.unseen .of
  readEnds _ f h _ := h.readEnds f
  writeEnds _ f h _ := h.writeEnds f
  stepTimer s _ _ h := h.unseen (unseen_setScrub s _)
  stepFallsDue _ h := h.stepFallsDue
  emit s p f h := h.unseen (unseen_emit s p f)
  quietLink s p _ h quiet := h.unseen (unseen_setLink s p (sameTotals_quiet quiet))
  clearLink _ _ h := h.deactivate nofun
  becomePending _ _ _ h _ := h.deactivate nofun
  sleep _ h := h.sleep
  setVote s p v h := h.unseen (unseen_setVote s p v)
  raiseNotice s p n h := h.unseen (unseen_raiseNotice s p n)
  sendAck s p h := h.unseen (unseen_sendAck s p)
  ackProgress s p n h := h.unseen (unseen_ackProgress s p n)
  linkDown _ p why h := h.linkDown p why
  answerTrain _ p revision h := h.answerTrain p revision
  acceptMessage _ _ _ _ _ h active k := h.acceptMessage active k
  arbiterTake _ p h _ := h.arbiterTake p
  take _ _ _ h hq := h.take hq

end Sys2Proof.Machine.Accounts
end

section
/-! What the accounts give: they are kept, no command stops the part, and the counts stay in range. -/

namespace Sys2Proof.Machine.Accounts

open Sys2Proof.Machine.Steps

variable {s t : State} {p : Port}

/-- Settles O6: each update the commands are made of keeps the accounts, with the credits on their way paid in the event. -/
theorem stepsKeepTheCreditAccounts : Obligations.StepsKeepTheCreditAccounts := by
  intro s t h step
  rw [accountsSound_iff] at h ⊢
  exact keeps_owing.step h step

/-! ### No command stops the part -/

/-- The outcome is a next state. -/
def Answers (o : Host.Outcome State Fault Refusal) : Prop := ∃ t, o = .next t

@[simp] theorem answers_next (t : State) : Answers (.next t) := ⟨t, rfl⟩

@[simp] theorem answers_ite {c : Prop} [Decidable c] {o o' : Host.Outcome State Fault Refusal} :
    Answers (if c then o else o') ↔ (c → Answers o) ∧ (¬ c → Answers o') := by
  split
  · next h => exact ⟨fun a => ⟨fun _ => a, fun n => absurd h n⟩, fun a => a.1 h⟩
  · next h => exact ⟨fun a => ⟨fun c => absurd c h, fun _ => a⟩, fun a => a.2 h⟩

theorem linkActive_acceptFrame (s : State) (p : Port) (cls : Option RequestClass) :
    (s.acceptFrame p cls).linkActive p = s.linkActive p := by
  have accepted : (s.setLink p ((s.link p).accepted s.now cls)).linkActive p = s.linkActive p :=
    linkActive_setLink_self (accepted_state ..)
  unfold State.acceptFrame
  simp only
  split
  · rw [linkActive_congr ((unseen_sendAck _ p).links p).1, accepted]
  · exact accepted

/-- A credit taken leaves a FREE slot in the port's partition. -/
theorem freeSlot_of_owed {mgmt : Port → Nat} (h : Owing (owe p) mgmt s) (active : s.linkActive p = true) :
    ∃ k, s.freeSlot (partitionStart p) 48 = some k := by
  have balance := h.memory p active
  rw [owe_self] at balance
  exact freeSlot_isSome (show s.heldByPort p < 48 by omega)

theorem intake_isSome {mgmt : Port → Nat} (h : Owing (owe p) mgmt s) (active : s.linkActive p = true) (head : BodyHead)
    (r : MemRequest) : ∃ t, s.intake p head r = some t := by
  obtain ⟨k, free⟩ := freeSlot_of_owed h active
  unfold State.intake
  split
  · exact ⟨_, rfl⟩
  · rw [free]
    exact ⟨_, rfl⟩

theorem acceptMessage_isSome (h : Owing 0 0 s) (active : s.linkActive p = true) (head : BodyHead) (m : Parsed) :
    ∃ t, s.acceptMessage p head m = some t := by
  unfold State.acceptMessage
  simp only
  split
  · exact ⟨_, rfl⟩
  · next credit =>
    have accepted := h.acceptFrame active (Bool.eq_false_of_not_eq_true credit)
    have still : (s.acceptFrame p m.creditClass).linkActive p = true := (linkActive_acceptFrame s p _).trans active
    split
    · exact ⟨_, rfl⟩
    · cases m with
      | memory r => exact intake_isSome (by simpa [tookMemory, Parsed.creditClass] using accepted) still head r
      | management r => exact ⟨_, rfl⟩
      | unknownKind => exact ⟨_, rfl⟩
      | malformed cls => exact ⟨_, rfl⟩

theorem answers_msg (h : Owing 0 0 s) (p : Port) (seq ackSeq : Byte) (v : Bool) (body : List Byte) :
    Answers (execMsg p seq ackSeq v body s) := by
  unfold execMsg
  simp only [answers_ite, answers_next, implies_true, true_and]
  intro _ _ receives
  have acked := keeps_owing.takeAck h p ackSeq v
  have some : ∃ u, (s.takeAck p ackSeq v).takeMessage p seq body = some u := by
    unfold State.takeMessage
    simp only
    split
    · exact acceptMessage_isSome acked (StepInvariant.linkActive_of_receives receives) _ _
    · split
      · exact ⟨_, rfl⟩
      · split
        · exact ⟨_, rfl⟩
        · exact ⟨_, rfl⟩
  obtain ⟨u, hu⟩ := some
  rw [hu]
  exact answers_next _

theorem answers_requestArrives (h : Owing 0 0 s) (p : Port) (tag : Byte) (block : BitVec 32) (r : MgmtRequest) :
    Answers (s.requestArrives p tag block r) := by
  unfold State.requestArrives
  simp only [answers_ite, answers_next, implies_true, true_and]
  intro receives
  obtain ⟨u, hu⟩ := acceptMessage_isSome h (StepInvariant.linkActive_of_receives receives) ⟨byteOf (mgmtKindCode r), tag, block⟩
    (.management r)
  rw [hu]
  exact answers_next _

theorem answers_train (p : Port) (revision : Byte) (s : State) : Answers (execTrain p revision s) := by
  unfold execTrain
  split
  · exact answers_next _
  · split
    all_goals exact answers_next _

/-- Of the commands only those that bring a message can meet a full partition. -/
theorem answers_exec (h : Owing 0 0 s) (c : Instr) : Answers (exec c s) := by
  cases c with
  | msg p seq ackSeq v body => exact answers_msg h p seq ackSeq v body
  | configGet p tag | configSet p tag | status p tag | regionGet p tag | regionSet p tag | errorFetch p tag
  | errorClear p tag | fillStart p tag | fillAbort p tag | retainVote p tag | retainWithdraw p tag | calibrate p tag
  | restart p tag => exact answers_requestArrives h p tag _ _
  | train p revision => exact answers_train p revision s
  | powerOn | cellFault | temperatureReading | badFrame | readToCloseComplete | writeRecoveryComplete | spacingComplete =>
    exact answers_next _
  | powerOnResetEnd | pinResetAssert | resetRelease | startUpReading | ack | replayReq | linkDownFrame | outgoingArbiterTake
  | closeBegin | napEntry | startupEnd | enteringBegin | retainEntry | wakingEnd | restartTakesEffect =>
    simp [exec, execPowerOnResetEnd, execPinResetAssert, execResetRelease, execStartUpReading, execAck, execReplayReq,
      execLinkDownFrame, execOutgoingArbiterTake, execCloseBegin, execNapEntry, execStartupEnd, execEnteringBegin,
      execRetainEntry, execWakingEnd, execRestartTakesEffect]
  | replayRequestTimerExpiry | acknowledgementTimerExpiry | replayTimerExpiry | openDelayComplete | minimumOpenComplete
  | turnaroundComplete | closeComplete | refreshComplete | windowSlotExpiry | idleCloseExpiry | intervalExpiry
  | calibrationTimerExpiry | calibrationRunComplete | stepTimerExpiry | napIdleTimerExpiry | napExitDelayComplete
  | timeBaseTick =>
    simp only [exec, execReplayRequestTimerExpiry, execAcknowledgementTimerExpiry, execReplayTimerExpiry,
      execOpenDelayComplete, execMinimumOpenComplete, execTurnaroundComplete, execCloseComplete, execRefreshComplete,
      execWindowSlotExpiry, execIdleCloseExpiry, execIntervalExpiry, execCalibrationTimerExpiry, execCalibrationRunComplete,
      execStepTimerExpiry, execNapIdleTimerExpiry, execNapExitDelayComplete, execTimeBaseTick]
    split
    all_goals exact answers_next _
  | frameResend p =>
    simp only [exec, execFrameResend]
    split
    · exact answers_next _
    · split
      all_goals exact answers_next _
  | openingGrant | firstAccessGrant | writeBackGrant | readTransferEnd | writeTransferEnd | calibrationRunBegin =>
    simp only [exec, execOpeningGrant, execFirstAccessGrant, execWriteBackGrant, execReadTransferEnd, execWriteTransferEnd,
      execCalibrationRunBegin]
    split
    all_goals simp

/-- Settles O2: a credit taken for a memory request leaves a FREE slot in its port's partition. -/
theorem balancedCreditsNeverStop : Obligations.BalancedCreditsNeverStop :=
  fun c s h => answers_exec ((accountsSound_iff s).1 h) c

/-! ### Credits in range -/

theorem idleSound_of_creditsInRange (h : s.creditsInRange) (p : Port) : IdleSound (s.link p) := fun _ => h p

/-- On an ACTIVE link the account bounds the credits; on any other they are 0 or as they were. -/
theorem creditsInRange_of_owing (h : Owing 0 0 t) (idle : ∀ p, IdleSound (t.link p)) : t.creditsInRange := by
  intro p
  by_cases active : (t.link p).state = .active
  · have hm := h.memory p (linkActive_of_state active)
    have hg := h.management p (linkActive_of_state active)
    constructor <;> omega
  · exact idle p active

/-! ### A free unit has nothing waiting (R164) -/

theorem mgmt_of_touchesTable {s t : State} (h : TouchesTable s t) : t.mgmt = s.mgmt := by
  obtain ⟨_, _, _, rfl⟩ := h
  rfl

/-- The queue is no longer than it was. -/
def Shorter (s t : State) : Prop := t.mgmt.queue.length ≤ s.mgmt.queue.length

theorem Shorter.of (h : t.mgmt.queue = s.mgmt.queue) : Shorter s t := by
  unfold Shorter
  rw [h]

theorem Shorter.trans {u : State} (h : Shorter s t) (k : Shorter t u) : Shorter s u := Nat.le_trans k h

theorem mgmt_removeVote (s : State) (p : Port) : (s.removeVote p).mgmt = s.mgmt := mgmt_of_touchesTable (touchesTable_removeVote s p)

theorem shorter_linkDown (s : State) (p : Port) (why : DownReason) : Shorter s (s.linkDown p why) := by
  unfold State.linkDown
  split
  · simp only
    generalize hu : (if downFrameSent why = true then _ else s : State) = u
    have told : u.mgmt = s.mgmt := by
      subst hu
      split
      · exact mgmt_emit ..
      · rfl
    unfold Shorter
    rw [mgmt_removeVote, dropRequests_eq, mgmt_of_touchesTable (touchesTable_orphanPort _ p), mgmt_setLink, told]
    exact List.length_filter_le _ _
  · exact Nat.le_refl _

theorem shorter_replyAndLetGo (s : State) (p : Port) (m : Message) : Shorter s (s.replyAndLetGo p m) := by
  have placed : Shorter s (s.placeControl p m) := by
    unfold State.placeControl
    split
    · simp only
      split
      · exact shorter_linkDown s p _
      · exact .of (by rw [mgmt_setLink])
    · exact Nat.le_refl _
  unfold State.replyAndLetGo
  exact placed.trans (.of (by rw [mgmt_returnCredit]))

theorem Shorter.reply {u : State} (h : u.mgmt.queue = s.mgmt.queue) (p : Port) (m : Message) :
    Shorter s (u.replyAndLetGo p m) := (Shorter.of h).trans (shorter_replyAndLetGo u p m)

theorem shorter_answerSlot {u : State} (h : u.mgmt.queue = s.mgmt.queue) (p : Port) (tag : Byte) (kind : Nat) (slot : Fin 8) :
    Shorter s (u.answerSlot p tag kind slot) := by
  unfold State.answerSlot
  split
  all_goals exact .reply h p _

theorem mgmt_applyKey (s : State) (key : Nat) : (s.applyKey key).mgmt = s.mgmt := by
  unfold State.applyKey
  split
  · rfl
  · split
    all_goals rfl

theorem mgmt_maintenanceAdmission (s : State) (kind : EntryKind) (first age : Nat) (data : List (List Byte)) (slot : Nat) :
    (s.maintenanceAdmission kind first age data slot).mgmt = s.mgmt := by
  have placed := mgmt_of_touchesTable (touchesTable_place s slot (s.newEntry .maintenance kind first 8 age data))
  unfold State.maintenanceAdmission
  rw [endNap_eq]
  exact placed

theorem mgmt_stepFallsDue (s : State) : s.stepFallsDue.mgmt = s.mgmt := by
  unfold State.stepFallsDue
  split
  · unfold State.takeStep
    exact mgmt_maintenanceAdmission ..
  · rfl

theorem mgmt_createFillEntry (s : State) : s.createFillEntry.mgmt = s.mgmt := by
  unfold State.createFillEntry
  split
  · rfl
  · split
    · split
      · rfl
      · exact mgmt_maintenanceAdmission ..
    · rfl

theorem mgmt_acceptFill_body (s : State) (f : Fill) (p : Port) :
    ((State.createFillEntries { s.takeAge with fill := some f }).reevaluate.removeVote p).mgmt = s.mgmt := by
  rw [mgmt_removeVote, mgmt_of_touchesTable (touchesTable_reevaluate _)]
  unfold State.createFillEntries
  rw [mgmt_createFillEntry, mgmt_createFillEntry, mgmt_createFillEntry]
  rfl

theorem mgmt_calTrigger (s : State) (k : CalKind) : (s.calTrigger k).mgmt = s.mgmt := by
  unfold State.calTrigger
  simp only
  split
  · rfl
  · split
    · rw [endNap_eq]
    · rfl

/-- Taking a request adds none to the queue. -/
theorem shorter_takeRequest (x : HeldRequest) (s : State) : Shorter s (takeRequest x s) := by
  unfold takeRequest
  split
  case h_1 =>
    unfold takeConfigGet
    split
    · exact .reply rfl _ _
    · split
      all_goals exact .reply rfl _ _
  case h_2 =>
    unfold takeConfigSet
    split
    · exact .reply rfl _ _
    · split
      · exact .reply rfl _ _
      · split
        · exact .reply rfl _ _
        · split
          · exact .reply rfl _ _
          · exact .reply (by rw [mgmt_applyKey]) _ _
  case h_3 =>
    unfold takeStatus
    simp only
    refine .reply ?_ _ _
    split <;> rfl
  case h_4 =>
    unfold takeRegionGet
    split
    · exact .reply rfl _ _
    · split
      · exact shorter_answerSlot rfl ..
      · exact .reply rfl _ _
  case h_5 =>
    unfold takeRegionSet
    split
    · exact .reply rfl _ _
    · split
      · exact .reply rfl _ _
      · split
        · split
          · exact .reply rfl _ _
          · exact shorter_answerSlot (by exact rfl) ..
        · exact .reply rfl _ _
  case h_6 =>
    unfold takeErrorFetch
    split
    · exact .reply rfl _ _
    · split
      all_goals exact .reply rfl _ _
  case h_7 =>
    unfold takeErrorClear
    split
    · exact .reply rfl _ _
    · split
      all_goals exact .reply (by exact rfl) _ _
  case h_8 =>
    unfold takeFillStart State.acceptFill
    split
    · exact .reply rfl _ _
    · split
      · exact .reply rfl _ _
      · split
        · exact .reply rfl _ _
        · split
          · exact .reply rfl _ _
          · exact .reply (by rw [mgmt_acceptFill_body]) _ _
  case h_9 =>
    unfold takeFillAbort
    split
    · exact .reply rfl _ _
    · split
      · exact .reply rfl _ _
      · split
        · exact .reply rfl _ _
        · exact .of rfl
  case h_10 =>
    unfold takeRetainVote
    split
    · exact .reply rfl _ _
    · split
      · exact .reply rfl _ _
      · refine .reply ?_ _ _
        split
        · rfl
        · rw [mgmt_raiseNotice, mgmt_setVote]
  case h_11 =>
    unfold takeRetainWithdraw
    split
    · exact .reply rfl _ _
    · exact .reply (by rw [mgmt_removeVote]) _ _
  case h_12 =>
    unfold takeCalibrate
    split
    · exact .reply rfl _ _
    · exact .reply (by rw [mgmt_calTrigger]) _ _
  case h_13 =>
    unfold takeRestart
    split
    · exact .reply rfl _ _
    · split
      all_goals exact .reply (by exact rfl) _ _

/-- A free unit with bound enough takes every request that waits. -/
theorem freeUnitIdle_drainFor (n : Nat) (s : State) (h : s.mgmt.queue.length ≤ n) : (drainFor n s).freeUnitIdle := by
  induction n generalizing s with
  | zero => exact fun _ => List.length_eq_zero_iff.1 (Nat.le_zero.1 h)
  | succ n ih =>
    unfold drainFor
    split
    · next q rest _ hq =>
      have taken := shorter_takeRequest q { s with mgmt := { s.mgmt with queue := rest } }
      rw [hq] at h
      exact ih _ (Nat.le_trans taken (Nat.le_of_succ_le_succ h))
    · next none =>
      intro free
      cases hq : s.mgmt.queue with
      | nil => rfl
      | cons q rest => exact absurd hq (none q rest free)

theorem freeUnitIdle_finish (s : State) : s.finish.freeUnitIdle := freeUnitIdle_drainFor _ s (Nat.le_refl _)

theorem freeUnitIdle_of_mgmt (h : s.freeUnitIdle) (same : t.mgmt = s.mgmt) : t.freeUnitIdle := by
  unfold State.freeUnitIdle
  rw [same]
  exact h

theorem freeUnitIdle_of_empty (h : t.mgmt.queue = []) : t.freeUnitIdle := fun _ => h

theorem mgmt_settleRunDown (s : State) : s.settleRunDown.mgmt = s.mgmt := by
  unfold State.settleRunDown
  split <;> rfl

theorem mgmt_startIntervalsIfStopped (s : State) : s.startIntervalsIfStopped.mgmt = s.mgmt := by
  rw [startIntervalsIfStopped_eq]

theorem mgmt_resetLow (s : State) : s.resetLow.mgmt = ⟨[], .free⟩ := by
  unfold State.resetLow
  simp only
  rw [mgmt_settleRunDown, mgmt_startIntervalsIfStopped]
  rfl

theorem mgmt_compareReading (s : State) (reading : Int) : (s.compareReading reading).mgmt = s.mgmt := by
  unfold State.compareReading
  split
  · exact mgmt_calTrigger s .short
  · rfl

theorem mgmt_raiseBoth (s : State) (n : Notice) : (s.raiseBoth n).mgmt = s.mgmt :=
  mgmt_of_touchesTable (touchesTable_raiseBoth s n)

theorem mgmt_takeReading (s : State) (reading : Int) : (s.takeReading reading).mgmt = s.mgmt := by
  unfold State.takeReading
  simp only
  rw [mgmt_compareReading]
  split
  · rfl
  · rw [mgmt_raiseBoth]

theorem mgmt_intervalExpires (s : State) (b : Fin 16) : (s.intervalExpires b).mgmt = s.mgmt := by
  unfold State.intervalExpires
  simp only
  split
  · rfl
  · rw [mgmt_raiseBoth]
    rfl

theorem mgmt_minimumPasses (s : State) (began : Option Time) (span : Time) : (s.minimumPasses began span).mgmt = s.mgmt := by
  unfold State.minimumPasses
  split <;> rfl

theorem mgmt_answerPending (s : State) (p : Port) : (s.answerPending p).mgmt = s.mgmt := by
  unfold State.answerPending
  split
  · exact mgmt_answerTrain ..
  · rfl

theorem mgmt_answerBoth (s : State) : s.answerBoth.mgmt = s.mgmt := by
  unfold State.answerBoth
  rw [mgmt_answerPending, mgmt_answerPending]

theorem mgmt_takeBadFrame (s : State) (p : Port) : (s.takeBadFrame p).mgmt = s.mgmt := by
  unfold State.takeBadFrame
  split
  · exact (onlyPort_findLoss s p).mgmt
  · rfl

theorem mgmt_wake (s : State) (p : Port) (revision : Byte) : (s.wake p revision).mgmt = s.mgmt := by
  unfold State.wake
  simp only
  rw [mgmt_calTrigger]
  unfold State.becomePending
  rw [mgmt_setLink]
  simp only [mgmt_setVote, mgmt_setLink]

/-! ### The commands -/

@[simp] theorem leads_ite {I : State → Prop} {c : Prop} [Decidable c] {o o' : Host.Outcome State Fault Refusal} :
    Leads I (if c then o else o') ↔ (c → Leads I o) ∧ (¬ c → Leads I o') := by
  split
  · next h => exact ⟨fun a => ⟨fun _ => a, fun n => absurd h n⟩, fun a => a.1 h⟩
  · next h => exact ⟨fun a => ⟨fun c => absurd c h, fun _ => a⟩, fun a => a.2 h⟩

theorem leads_finish (u : State) : Leads State.freeUnitIdle (.next u.finish) := leads_next.2 (freeUnitIdle_finish u)

/-- The Management Unit is as it was. -/
theorem leads_kept (h : s.freeUnitIdle) (same : t.mgmt = s.mgmt) : Leads State.freeUnitIdle (.next t) :=
  leads_next.2 (freeUnitIdle_of_mgmt h same)

theorem leads_settled (h : s.freeUnitIdle) (same : t.mgmt = s.mgmt) : Leads State.freeUnitIdle (.next t.settle) :=
  leads_next.2 (freeUnitIdle_of_mgmt h same)

theorem freeUnitIdle_train (h : s.freeUnitIdle) (p : Port) (revision : Byte) :
    Leads State.freeUnitIdle (execTrain p revision s) := by
  unfold execTrain
  split
  · simpa using h
  · split
    case h_1 | h_2 | h_3 | h_4 => exact leads_next.2 (freeUnitIdle_of_mgmt h (mgmt_setLink ..))
    case h_5 => exact leads_next.2 (freeUnitIdle_of_mgmt (t := (s.wake p revision).settle) h (mgmt_wake s p revision))
    case h_6 | h_7 | h_8 | h_9 | h_10 | h_11 => exact leads_finish _
    case h_12 => simpa using h

theorem freeUnitIdle_msg (h : s.freeUnitIdle) (p : Port) (seq ackSeq : Byte) (v : Bool) (body : List Byte) :
    Leads State.freeUnitIdle (execMsg p seq ackSeq v body s) := by
  unfold execMsg
  split
  · simpa using h
  · split
    · exact leads_next.2 (freeUnitIdle_of_mgmt h (mgmt_takeBadFrame s p))
    · simp only
      split
      · exact leads_finish _
      · split
        · exact leads_fault
        · exact leads_finish _

theorem freeUnitIdle_requestArrives (h : s.freeUnitIdle) (p : Port) (tag : Byte) (block : BitVec 32) (r : MgmtRequest) :
    Leads State.freeUnitIdle (s.requestArrives p tag block r) := by
  unfold State.requestArrives
  split
  · simpa using h
  · split
    · exact leads_fault
    · exact leads_finish _

theorem freeUnitIdle_openDelayComplete (h : s.freeUnitIdle) (b : Fin 16) : Leads State.freeUnitIdle (execOpenDelayComplete b s) := by
  unfold execOpenDelayComplete
  split
  · exact leads_kept h rfl
  · exact leads_settled h rfl

theorem freeUnitIdle_minimumOpenComplete (h : s.freeUnitIdle) (b : Fin 16) : Leads State.freeUnitIdle (execMinimumOpenComplete b s) := by
  unfold execMinimumOpenComplete
  split
  · exact leads_kept h rfl
  · exact leads_kept h rfl

theorem freeUnitIdle_refreshComplete (h : s.freeUnitIdle) (b : Fin 16) : Leads State.freeUnitIdle (execRefreshComplete b s) := by
  unfold execRefreshComplete
  split
  · exact leads_kept h rfl
  · exact leads_settled h rfl

theorem freeUnitIdle_windowSlotExpiry (h : s.freeUnitIdle) : Leads State.freeUnitIdle (execWindowSlotExpiry s) := by
  unfold execWindowSlotExpiry
  split
  · exact leads_kept h rfl
  · exact leads_kept h rfl

theorem freeUnitIdle_idleCloseExpiry (h : s.freeUnitIdle) (b : Fin 16) : Leads State.freeUnitIdle (execIdleCloseExpiry b s) := by
  unfold execIdleCloseExpiry
  split
  · exact leads_kept h rfl
  · exact leads_kept h rfl

theorem freeUnitIdle_calibrationRunComplete (h : s.freeUnitIdle) : Leads State.freeUnitIdle (execCalibrationRunComplete s) := by
  unfold execCalibrationRunComplete
  split
  · exact leads_kept h rfl
  · exact leads_settled h rfl

theorem freeUnitIdle_napIdleTimerExpiry (h : s.freeUnitIdle) : Leads State.freeUnitIdle (execNapIdleTimerExpiry s) := by
  unfold execNapIdleTimerExpiry
  split
  · exact leads_kept h rfl
  · exact leads_settled h rfl

theorem freeUnitIdle_napExitDelayComplete (h : s.freeUnitIdle) : Leads State.freeUnitIdle (execNapExitDelayComplete s) := by
  unfold execNapExitDelayComplete
  split
  · exact leads_kept h rfl
  · exact leads_kept h rfl

theorem freeUnitIdle_timeBaseTick (h : s.freeUnitIdle) : Leads State.freeUnitIdle (execTimeBaseTick s) := by
  unfold execTimeBaseTick
  split
  · exact leads_kept h rfl
  · exact leads_kept h rfl

theorem freeUnitIdle_closeComplete (h : s.freeUnitIdle) (b : Fin 16) : Leads State.freeUnitIdle (execCloseComplete b s) := by
  unfold execCloseComplete
  split
  · exact leads_kept h rfl
  · exact leads_settled h (mgmt_settleRunDown _)

theorem freeUnitIdle_turnaroundComplete (h : s.freeUnitIdle) : Leads State.freeUnitIdle (execTurnaroundComplete s) := by
  unfold execTurnaroundComplete
  split
  · exact leads_kept h rfl
  · exact leads_kept h (mgmt_minimumPasses ..)

theorem freeUnitIdle_intervalExpiry (h : s.freeUnitIdle) (b : Fin 16) : Leads State.freeUnitIdle (execIntervalExpiry b s) := by
  unfold execIntervalExpiry
  split
  · exact leads_kept h rfl
  · exact leads_kept h (mgmt_intervalExpires ..)

theorem freeUnitIdle_calibrationTimerExpiry (h : s.freeUnitIdle) : Leads State.freeUnitIdle (execCalibrationTimerExpiry s) := by
  unfold execCalibrationTimerExpiry
  split
  · exact leads_kept h rfl
  · exact leads_settled h (mgmt_calTrigger _ _)

theorem freeUnitIdle_stepTimerExpiry (h : s.freeUnitIdle) : Leads State.freeUnitIdle (execStepTimerExpiry s) := by
  unfold execStepTimerExpiry
  split
  · exact leads_kept h rfl
  · exact leads_settled h (mgmt_stepFallsDue _)

/-- A command either leaves the Management Unit as it was, or ends with the unit taking what waits, or resets the part. -/
theorem freeUnitIdle_exec (h : s.freeUnitIdle) (c : Instr) : Leads State.freeUnitIdle (exec c s) := by
  have kept : ∀ {t : State}, t.mgmt = s.mgmt → Leads State.freeUnitIdle (.next t) := leads_kept h
  have settled : ∀ {t : State}, t.mgmt = s.mgmt → Leads State.freeUnitIdle (.next t.settle) := leads_settled h
  have reset : ∀ {t : State}, t.mgmt.queue = [] → Leads State.freeUnitIdle (.next t) := fun empty =>
    leads_next.2 (freeUnitIdle_of_empty empty)
  cases c with
  | msg p seq ackSeq v body => exact freeUnitIdle_msg h p seq ackSeq v body
  | configGet p tag | configSet p tag | status p tag | regionGet p tag | regionSet p tag | errorFetch p tag
  | errorClear p tag | fillStart p tag | fillAbort p tag | retainVote p tag | retainWithdraw p tag | calibrate p tag
  | restart p tag => exact freeUnitIdle_requestArrives h p tag _ _
  | train p revision => exact freeUnitIdle_train h p revision
  | powerOn high =>
    refine reset ?_
    unfold State.powerUp
    simp only
    split <;> rfl
  | pinResetAssert =>
    refine leads_ite.2 ⟨fun _ => reset ?_, fun _ => kept rfl⟩
    rw [mgmt_resetLow]
  | restartTakesEffect =>
    refine leads_ite.2 ⟨fun _ => reset ?_, fun _ => kept rfl⟩
    unfold State.leaveHeld
    simp only [mgmt_mapBanks]
    rw [mgmt_resetLow]
  | powerOnResetEnd high =>
    refine leads_ite.2 ⟨fun _ => kept ?_, fun _ => kept rfl⟩
    split
    · rfl
    · rw [mgmt_startIntervalsIfStopped]
  | resetRelease high =>
    refine leads_ite.2 ⟨fun _ => kept rfl, fun _ => kept ?_⟩
    split <;> rfl
  | cellFault => exact kept rfl
  | closeBegin | napEntry | retainEntry => exact leads_ite.2 ⟨fun _ => kept rfl, fun _ => kept rfl⟩
  | temperatureReading celsius => exact settled (mgmt_takeReading ..)
  | startUpReading celsius =>
    refine leads_ite.2 ⟨fun _ => settled ?_, fun _ => kept rfl⟩
    exact (mgmt_calTrigger _ _).trans (mgmt_compareReading _ _)
  | enteringBegin => exact leads_ite.2 ⟨fun _ => kept (mgmt_raiseBoth _ _), fun _ => kept rfl⟩
  | outgoingArbiterTake p =>
    exact leads_ite.2 ⟨fun _ => settled (mgmt_of_touchesTable (touchesTable_arbiterTake s p)), fun _ => kept rfl⟩
  | startupEnd | wakingEnd =>
    refine leads_ite.2 ⟨fun _ => settled ?_, fun _ => kept rfl⟩
    rw [mgmt_answerBoth]
    rfl
  | badFrame p => exact kept (mgmt_takeBadFrame s p)
  | readToCloseComplete | writeRecoveryComplete | spacingComplete => exact kept (mgmt_minimumPasses ..)
  | ack | linkDownFrame => exact leads_ite.2 ⟨fun _ => kept rfl, fun _ => leads_finish _⟩
  | replayReq p number =>
    exact leads_ite.2 ⟨fun _ => kept rfl, fun _ => leads_ite.2 ⟨fun _ => leads_finish _, fun _ => leads_finish _⟩⟩
  | replayRequestTimerExpiry | replayTimerExpiry =>
    simp only [exec, execReplayRequestTimerExpiry, execReplayTimerExpiry]
    split
    · exact kept rfl
    · exact leads_finish _
  | readTransferEnd | writeTransferEnd =>
    simp only [exec, execReadTransferEnd, execWriteTransferEnd]
    split
    · exact leads_ite.2 ⟨fun _ => leads_finish _, fun _ => kept rfl⟩
    · exact kept rfl
  | acknowledgementTimerExpiry p =>
    simp only [exec, execAcknowledgementTimerExpiry]
    split
    · exact kept rfl
    · exact kept (mgmt_sendAck _ p)
  | frameResend p =>
    simp only [exec, execFrameResend]
    split
    · exact kept rfl
    · split
      · exact kept rfl
      · exact kept (onlyPort_sendAgain s p _).mgmt
  | openingGrant | writeBackGrant =>
    simp only [exec, execOpeningGrant, execWriteBackGrant]
    split
    · exact leads_ite.2 ⟨fun _ => kept rfl, fun _ => kept rfl⟩
    · exact kept rfl
  | firstAccessGrant | calibrationRunBegin =>
    simp only [exec, execFirstAccessGrant, execCalibrationRunBegin]
    split
    · exact leads_ite.2 ⟨fun _ => kept rfl, fun _ => kept rfl⟩
    · exact kept rfl
  | openDelayComplete b => exact freeUnitIdle_openDelayComplete h b
  | minimumOpenComplete b => exact freeUnitIdle_minimumOpenComplete h b
  | refreshComplete b => exact freeUnitIdle_refreshComplete h b
  | windowSlotExpiry => exact freeUnitIdle_windowSlotExpiry h
  | idleCloseExpiry b => exact freeUnitIdle_idleCloseExpiry h b
  | calibrationRunComplete => exact freeUnitIdle_calibrationRunComplete h
  | napIdleTimerExpiry => exact freeUnitIdle_napIdleTimerExpiry h
  | napExitDelayComplete => exact freeUnitIdle_napExitDelayComplete h
  | timeBaseTick => exact freeUnitIdle_timeBaseTick h
  | closeComplete b => exact freeUnitIdle_closeComplete h b
  | turnaroundComplete => exact freeUnitIdle_turnaroundComplete h
  | intervalExpiry b => exact freeUnitIdle_intervalExpiry h b
  | calibrationTimerExpiry => exact freeUnitIdle_calibrationTimerExpiry h
  | stepTimerExpiry => exact freeUnitIdle_stepTimerExpiry h

theorem freeUnitIdle_step (h : s.freeUnitIdle) (k : step s = .next t) : t.freeUnitIdle := by
  unfold step at k
  split at k
  · exact freeUnitIdle_exec (by exact h) _ t k
  · cases k
    exact h

/-! ### What the accounts and the reply lists hold -/

theorem length_eq_queued (queue : List HeldRequest) : queue.length = queued queue .a + queued queue .b := by
  induction queue with
  | nil => rfl
  | cons x t ih =>
    rw [queued_cons, queued_cons, List.length_cons, ih]
    cases hp : x.port
    · rw [owe_self, owe_of_ne (by decide : Port.b ≠ .a)]
      omega
    · rw [owe_self, owe_of_ne (by decide : Port.a ≠ .b)]
      omega

theorem queue_le_of_owing (h : Owing 0 0 s) : s.mgmt.queue.length ≤ 8 := by
  have ha := h.few .a
  have hb := h.few .b
  rw [mgmtHeld_eq, Pi.zero_apply] at ha hb
  rw [length_eq_queued]
  omega

/-- A reply list names each DONE entry of the port's partition once. -/
theorem replies_le (h : Owing 0 0 s) (sound : s.repliesSound) (p : Port) : (s.port p).replies.length ≤ 48 := by
  obtain ⟨distinct, lists⟩ := sound p
  have inside : (s.port p).replies ⊆ (List.range 48).map (partitionStart p + ·) := by
    intro k hk
    obtain ⟨e, tag, session, he, -, own⟩ := (lists k).1 hk
    have range : inPartition p k := (h.inPartition_iff he p).1 (by rw [own]; rfl)
    exact List.mem_map.2 ⟨k - partitionStart p, List.mem_range.2 (by have := range.2; omega), by have := range.1; omega⟩
  simpa using (List.subperm_of_subset distinct inside).length_le

/-- Settles O8: the ranges are kept update by update; the credits and the queue are bounded by the accounts, a reply list by
its port's partition; the unit, once free, takes what waits before the event ends. -/
theorem stepsKeepCountsInRange : Obligations.StepsKeepCountsInRange := by
  refine ⟨fun s t h k => keeps_banksInRange.step h k, fun s t h k => keeps_countersInRange.step h k,
    fun s t h k => keeps_linksInRange.step h k, fun s t h credits k => ?_, fun s t h k => freeUnitIdle_step h k,
    fun s h => ⟨queue_le_of_owing ((accountsSound_iff s).1 h), fun table p => ?_⟩⟩
  · exact creditsInRange_of_owing (keeps_owing.step ((accountsSound_iff s).1 h) k)
      (keeps_idleSound.step (idleSound_of_creditsInRange credits) k)
  · obtain ⟨-, -, replies, -⟩ := table
    exact replies_le ((accountsSound_iff s).1 h) replies p

end Sys2Proof.Machine.Accounts
end

section
/-! The step, the world, supply and reset: what each command does, said by its equation. -/

namespace Sys2Proof.Machine.World

variable {s : State}

/-- Settles O1: both clauses are the two branches of `step`. -/
theorem stepRunsFrontCommand : Obligations.StepRunsFrontCommand :=
  ⟨fun _ _ _ => rfl, fun s h => by unfold step; rw [h]⟩

/-- Settles O10: the command sets one condition, worsened. -/
theorem cellFaultWorsensOneStep : Obligations.CellFaultWorsensOneStep := by
  intro s block
  refine ⟨s.setCondition block.toNat (worsen (s.condition block.toNat)), rfl, ?_, fun b ne => ?_, fun _ => rfl, rfl⟩
  · unfold State.condition State.setCondition
    rw [Sparse.find?_insert_self]
    rfl
  · unfold State.condition State.setCondition
    rw [Sparse.find?_insert_of_ne _ _ _ _ ne]

/-! ### Readings (R93 to R95, R99) -/

theorem clampReading_of_range {r : Int} (low : -40 ≤ r) (high : r ≤ 125) : clampReading r = r := by
  unfold clampReading
  omega

theorem hotAfter_eq (hot : Bool) (r : Int) : hotAfter hot r = if 85 ≤ r then true else if r ≤ 80 then false else hot := by
  unfold hotAfter
  cases hot
  · by_cases h : 85 ≤ r
    · simp [h]
    · simp [h]
  · by_cases h : 85 ≤ r
    · simp [h]
      omega
    · by_cases k : r ≤ 80
      · simp [h, k]
        omega
      · simp [h, k]
        omega

theorem farFrom_iff (temp r : Int) : farFrom temp r = true ↔ 8 ≤ (r - temp).natAbs := by
  unfold farFrom
  rw [decide_eq_true_iff]
  omega

theorem compareReading_eq (s : State) (r : Int) :
    s.compareReading r = if 8 ≤ (r - s.maint.calTemp).natAbs then s.calTrigger .short else s := by
  unfold State.compareReading
  simp only [farFrom_iff]

/-- Settles O11: a reading in the sensor's range is taken as it is, and the comparison is with the temperature calibrated
at. -/
theorem readingsSetTheHotFlag : Obligations.ReadingsSetTheHotFlag := by
  refine ⟨fun s r hot low high flag => ?_, fun s r low high => ⟨fun starting asked => ?_, fun other => ?_⟩⟩
  · simp only [exec, execTemperatureReading, State.takeReading, clampReading_of_range low high, hotAfter_eq, ← flag,
      compareReading_eq, State.raiseBoth]
    split
    · rfl
    · simp only [maint_raiseNotice]
  · simp only [exec, execStartUpReading, clampReading_of_range low high, compareReading_eq]
    rw [if_pos ⟨starting, asked⟩]
  · simp only [exec, execStartUpReading]
    rw [if_neg]
    rintro ⟨starting, asked⟩
    rcases other with h | h
    · exact h starting
    · rw [h] at asked
      cases asked

/-! ### Supply and reset (R175, R176) -/

/-- Settles O12: with RST_N low the interval timers start; nothing else is added to the values at power-on. -/
theorem powerOnSetsPowerOnValues : Obligations.PowerOnSetsPowerOnValues := by
  intro s
  refine ⟨rfl, _, rfl, startIntervals_eq _, fun b => ?_⟩
  exact (bank_startIntervals _ b).trans (by rw [stagger_eq]; rfl)

theorem link_reset (p : Port) : State.reset.link p = Link.cleared := by cases p <;> rfl

theorem bank_reset (b : Fin 16) : State.reset.bank b = Bank.powerOn := by
  unfold State.bank State.reset
  exact Vector.getElem_replicate ..

theorem inRange_cleared : Link.cleared.inRange := by
  refine ⟨Nat.zero_le _, Nat.zero_le _, Nat.zero_le _, Nat.zero_le _, Nat.zero_le _, fun i x h => ?_⟩
  simp [Link.cleared] at h

theorem tableSound_reset : State.reset.tableSound := by
  have no : ∀ {P : Nat × Entry → Prop}, ∀ x ∈ State.reset.table, P x := fun x hx => absurd hx List.not_mem_nil
  refine ⟨List.Pairwise.nil, ⟨no, List.Pairwise.nil, fun f h => by cases h⟩, fun p => ?_, (fun f k h => by cases h), no, no⟩
  have empty : (State.reset.port p).replies = [] := by cases p <;> rfl
  rw [empty]
  exact ⟨List.Pairwise.nil, fun k => ⟨nofun, fun ⟨_, _, _, h, _⟩ => by cases h⟩⟩

theorem accountsSound_reset : State.reset.accountsSound := by
  refine ⟨List.Pairwise.nil, fun x hx => absurd hx List.not_mem_nil, (fun f h => by cases h), fun _ => Nat.zero_le _,
    fun p active => ?_⟩
  unfold State.linkActive at active
  rw [link_reset] at active
  cases active

/-- Settles O3: the values are those of the definition, and what is empty or 0 meets every invariant. -/
theorem resetHoldsPowerOnValues : Obligations.ResetHoldsPowerOnValues := by
  refine ⟨⟨rfl, bank_reset, rfl, rfl, rfl, rfl, rfl, rfl, fun p => ?_, link_reset, rfl, rfl, rfl, rfl, fun i => ?_, rfl, rfl⟩,
    memoryWf_reset, ?_, fun b => ?_, ?_, fun p => ?_, ?_, fun _ => rfl, tableSound_reset, fun p => ?_, accountsSound_reset⟩
  · cases p <;> exact ⟨rfl, rfl, rfl⟩
  · exact Vector.getElem_replicate ..
  · exact ⟨Nat.zero_le _, List.Pairwise.nil, nofun, nofun⟩
  · rw [bank_reset]
    decide
  · exact ⟨by decide, by decide, by decide, by decide, by decide, nofun, nofun⟩
  · rw [link_reset]
    exact inRange_cleared
  · exact ⟨by decide, List.Pairwise.nil, nofun, by decide, rfl⟩
  · rw [link_reset]
    exact ⟨by decide, by decide⟩

/-! ### The end of HELD (R176) -/

theorem bank_leaveHeld (s : State) (b : Fin 16) :
    s.leaveHeld.bank b = { s.bank b with intervalDue := none, corrected := 0, hitStreak := 0 } := by
  unfold State.leaveHeld
  rw [bank_mapBanks]
  rfl

theorem leaveHeld_eq (s : State) : s.leaveHeld = { s with
    power := { s.power with state := .starting, napCount := 0 }
    maint := { s.maint with missed := 0, readingAsked := true }
    banks := s.leaveHeld.banks } := rfl

/-- Settles O13: HELD ends in `State.leaveHeld`, or goes on with the timers started or the counts cleared. -/
theorem endOfHeldStartsUp : Obligations.EndOfHeldStartsUp := by
  refine ⟨fun s high inReset => ⟨fun rst => ?_, fun rst => ?_⟩, fun s high rst => ?_⟩
  · refine ⟨State.leaveHeld { s with powerOnReset := false, owner := ownerSelected high }, ?_, rfl,
      fun b => bank_leaveHeld _ b⟩
    simp [exec, execPowerOnResetEnd, inReset, rst]
  · refine ⟨State.startIntervalsIfStopped { s with powerOnReset := false, owner := ownerSelected high }, ?_, ?_, fun b => ?_⟩
    · simp [exec, execPowerOnResetEnd, inReset, rst]
    · exact startIntervalsIfStopped_eq _
    · exact bank_startIntervalsIfStopped _ b
  · by_cases inReset : s.powerOnReset = false
    · refine ⟨State.leaveHeld { s with rstHigh := true, owner := ownerSelected high }, ?_, fun b => bank_leaveHeld _ b,
        fun _ => rfl, fun set => by rw [inReset] at set; cases set⟩
      simp [exec, execResetRelease, rst, inReset]
    · refine ⟨State.releaseInPowerOn { s with rstHigh := true, owner := ownerSelected high }, ?_, fun b => ?_,
        fun clear => absurd clear inReset, fun _ => rfl⟩
      · simp [exec, execResetRelease, rst, inReset]
      · unfold State.releaseInPowerOn
        rw [bank_mapBanks]
        rfl

/-! ### RST_N going low (R175) -/

/-- RST_N going low, but for the settling of the run-down. -/
theorem resetLow_eq (s : State) : ∃ u : State, s.resetLow = u.settleRunDown ∧
    u = { s with
      power := { s.power with state := .held, idleDue := none, napDue := false, exitDue := none, timeBase := 0, tickDue := none }
      table := []
      ageCounter := 0
      portA := { State.reset.portA with tx := s.portA.tx }
      portB := { State.reset.portB with tx := s.portB.tx }
      maint := { s.maint with
        cal := (if s.calPending then .idle else s.maint.cal)
        followOn := none, calTimerDue := none, readingAsked := false }
      scrub := State.reset.scrub
      fill := none
      regions := State.reset.regions
      mgmt := ⟨[], .free⟩
      store := State.reset.store
      banks := u.banks
      runDown := true
      path := { s.path with flight := s.path.flight.map fun f : Flight => { f with slot := none } } } ∧
    ∀ b, u.bank b = { s.bank b with
      idleDue := none
      idleDecision := false
      intervalDue := if ∀ c, (s.bank c).intervalDue = none
        then some (s.now + (b.val + 1) * (if s.maint.hot then 62500 else 125000))
        else (s.bank b).intervalDue } := by
  refine ⟨_, rfl, ?_, fun b => ?_⟩
  · rw [startIntervalsIfStopped_eq, ← maint_resetLow_eq]
    rfl
  · rw [bank_startIntervalsIfStopped]
    simp only [bank_mapBanks]
    rfl

theorem settleRunDown_of_over {u : State} (running : u.runDown = true) (flight : u.path.flight = none)
    (banks : ∀ b, (u.bank b).state = .closed ∨ (u.bank b).state = .refreshing) :
    u.settleRunDown = { u with runDown := false, path := ⟨none, none, none⟩ } := by
  unfold State.settleRunDown
  rw [if_pos (by rw [running, (ranDown_iff u).2 ⟨flight, banks⟩]; rfl)]
  rfl

theorem settleRunDown_of_not_over {u : State}
    (h : ¬ (u.runDown = true ∧ u.path.flight = none ∧ ∀ b, (u.bank b).state = .closed ∨ (u.bank b).state = .refreshing)) :
    u.settleRunDown = u := by
  unfold State.settleRunDown
  rw [if_neg]
  intro done
  rw [Bool.and_eq_true, ranDown_iff] at done
  exact h done

/-- RST_N going low does not look at the level of RST_N. -/
theorem resetLow_setRstHigh (s : State) (high : Bool) :
    State.resetLow { s with rstHigh := high } = { s.resetLow with rstHigh := high } := by
  have stopped : ∀ u : State, State.startIntervalsIfStopped { u with rstHigh := high } =
      { u.startIntervalsIfStopped with rstHigh := high } := fun u => by
    unfold State.startIntervalsIfStopped
    by_cases c : (allBanks.all fun b => (u.bank b).intervalDue.isNone) = true
    · refine (if_pos (by exact c)).trans ?_
      rw [if_pos c]
      rfl
    · refine (if_neg (by exact c)).trans ?_
      rw [if_neg c]
  have settled : ∀ u : State, State.settleRunDown { u with rstHigh := high } =
      { u.settleRunDown with rstHigh := high } := fun u => by
    unfold State.settleRunDown
    by_cases c : (u.runDown && u.ranDown) = true
    · refine (if_pos (by exact c)).trans ?_
      rw [if_pos c]
    · refine (if_neg (by exact c)).trans ?_
      rw [if_neg c]
  unfold State.resetLow
  simp only
  rw [← settled, ← stopped]
  rfl

/-- Settles O14: RST_N going low gives the values, then settles the run-down; a RESTART goes on to the end of HELD. -/
theorem pinResetClearsThePart : Obligations.PinResetClearsThePart := by
  intro s
  obtain ⟨u, reset, hu, banks⟩ := resetLow_eq s
  have same : s.resetLow.banks = u.banks := by
    rw [reset, settleRunDown_eq]
  have running : u.runDown = true := by rw [hu]
  have path : u.path = { s.path with flight := s.path.flight.map fun f : Flight => { f with slot := none } } := by rw [hu]
  have done : (u.path.flight = none ∧ ∀ b, (u.bank b).state = .closed ∨ (u.bank b).state = .refreshing) ↔
      s.path.flight = none ∧ ∀ b, (s.bank b).state = .closed ∨ (s.bank b).state = .refreshing := by
    rw [path]
    simp only [banks, Option.map_eq_none_iff]
  refine ⟨s.resetLow, ?_, fun b => ?_, ?_, fun high => ?_, fun due => ?_⟩
  · rw [reset, settleRunDown_eq]
    simp only
    generalize u.settleRunDown.runDown = running
    generalize u.settleRunDown.path = path
    conv_lhs => rw [hu]
  · rw [← banks b]
    unfold State.bank
    rw [same]
  · split
    · next h =>
      obtain ⟨flight, closed⟩ := done.2 h
      rw [reset, settleRunDown_of_over running flight closed]
      exact ⟨rfl, rfl⟩
    · next h =>
      rw [reset, settleRunDown_of_not_over fun k => h (done.1 k.2)]
      exact ⟨running, path⟩
  · simp only [exec, execPinResetAssert]
    rw [if_pos high, resetLow_setRstHigh]
  · refine ⟨s.resetLow.leaveHeld, ?_, leaveHeld_eq _, fun b => bank_leaveHeld _ b⟩
    simp only [exec, execRestartTakesEffect]
    rw [if_pos due]

/-! ### Start-up and the time base (R176, R177) -/

/-- Settles O15: each command is its equation, the conditions as propositions. -/
theorem startUpAndWakingEndInActive : Obligations.StartUpAndWakingEndInActive := by
  refine ⟨fun s idle => ⟨fun starting asked clear => ?_, fun waking => ?_⟩, fun s => ⟨fun due h => ?_, fun h => ?_⟩⟩
  · refine ⟨s.becomeActive.startIntervals, ?_, fun b => ?_, ?_⟩
    · exact startIntervals_eq _
    · rw [bank_startIntervals, stagger_eq]
      rfl
    · have done : s.startupDone = true := by
        simp [State.startupDone, State.calIdle, starting, asked, idle, (refreshClear_iff s).2 clear]
      simp only [exec, execStartupEnd]
      rw [if_pos done]
      rfl
  · simp only [exec, execWakingEnd]
    rw [if_pos ⟨waking, decide_eq_true idle⟩]
    rfl
  · simp only [exec, execTimeBaseTick]
    rw [h]
    rfl
  · simp only [exec, execTimeBaseTick]
    rw [h]

/-! ### NAP (R178, R179) -/

theorem napConditions_iff (s : State) : s.napConditions = true ↔ s.power.state = .active ∧ s.store.napIdle ≠ 0 ∧
    s.table = [] ∧ s.maint.cal = .idle ∧ ∀ b, (s.bank b).state = .closed ∨ (s.bank b).state = .refreshing := by
  unfold State.napConditions State.tableEmpty State.calIdle
  simp only [Bool.and_eq_true, decide_eq_true_eq, List.isEmpty_iff, noRowInUse_iff]
  constructor
  · rintro ⟨⟨⟨⟨active, set⟩, empty⟩, rows⟩, idle⟩
    exact ⟨active, set, empty, idle, rows⟩
  · rintro ⟨active, set, empty, idle, rows⟩
    exact ⟨⟨⟨⟨active, set⟩, empty⟩, rows⟩, idle⟩

theorem settlePower_of_not (h : s.napConditions = false) :
    s.settlePower = { s.power with idleDue := none, napDue := false } := by
  unfold State.settlePower
  rw [h]
  rfl

theorem settlePower_of_nap (h : s.napConditions = true) : s.settlePower = { s.power with
    idleDue := if s.power.idleDue = none ∧ s.power.napDue = false then some (s.now + 512000 * s.store.napIdle)
      else s.power.idleDue } := by
  unfold State.settlePower
  rw [h, if_pos rfl]
  by_cases stopped : s.power.idleDue = none ∧ s.power.napDue = false
  · rw [if_pos stopped, if_neg (by simp [stopped])]
    rfl
  · rw [if_neg stopped, if_pos]
    cases due : s.power.idleDue with
    | some t => rfl
    | none => simpa using fun clear => stopped ⟨due, clear⟩

/-- Settles O16: settling is `State.settlePower`, and each row is its equation. -/
theorem napFollowsItsConditions : Obligations.NapFollowsItsConditions := by
  refine ⟨fun s => ⟨untimed_settle s, fun h => ?_, fun h => ?_, fun h => ?_, napConditions_iff s⟩,
    fun s => ⟨fun due h => ?_, fun due active set empty idle closed => ?_, fun due h => ?_⟩⟩
  · exact congrArg Power.idleDue (settlePower_of_nap h)
  · show s.settlePower.napDue = _
    rw [settlePower_of_nap h]
  · exact ⟨congrArg Power.idleDue (settlePower_of_not h), congrArg Power.napDue (settlePower_of_not h)⟩
  · simp only [exec, execNapIdleTimerExpiry]
    rw [h]
    rfl
  · have ready : s.napReady = true := by
      unfold State.napReady
      rw [due, (napConditions_iff s).2 ⟨active, set, empty, idle, fun b => .inl (closed b)⟩, (allClosed_iff s).2 closed]
      rfl
    simp only [exec, execNapEntry]
    rw [if_pos ready]
  · simp only [exec, execNapExitDelayComplete]
    rw [h]
    rfl

/-! ### Retention (R181, R182) -/

theorem enteringConditions_of (state : s.power.state = .active ∨ s.power.state = .nap)
    (vote : s.portA.vote = true ∨ s.portB.vote = true) (votes : ∀ p, (s.link p).state = .active → (s.port p).vote = true)
    (empty : s.table = []) (fill : s.fill = none) (idle : s.maint.cal = .idle) : s.enteringConditions = true := by
  have port : ∀ p, (!s.linkActive p || (s.port p).vote) = true := fun p => by
    by_cases active : (s.link p).state = .active
    · rw [votes p active, Bool.or_true]
    · simp [State.linkActive, active]
  have a : (!s.linkActive .a || s.portA.vote) = true := port .a
  have b : (!s.linkActive .b || s.portB.vote) = true := port .b
  have any : (s.portA.vote || s.portB.vote) = true := by simpa using vote
  simp only [State.enteringConditions, State.tableEmpty, State.calIdle, a, b, any, empty, fill, idle, decide_eq_true state]
  rfl

theorem retainConditions_of (clear : ∀ p, (s.link p).state = .active → s.linkClear p = true)
    (refreshed : ∀ b, (s.bank b).debt = 0 ∧ (s.bank b).state ≠ .refreshing) : s.retainConditions = true := by
  have port : ∀ p, (!s.linkActive p || s.linkClear p) = true := fun p => by
    by_cases active : (s.link p).state = .active
    · rw [clear p active, Bool.or_true]
    · simp [State.linkActive, active]
  simp only [State.retainConditions, port, (refreshClear_iff s).2 refreshed]
  rfl

/-- Settles O17: the conditions met, each row is its equation. -/
theorem enteringLeadsToRetain : Obligations.EnteringLeadsToRetain := by
  refine ⟨fun s state vote votes empty fill idle => ?_, fun s entering clear refreshed => ?_⟩
  · simp only [exec, execEnteringBegin]
    rw [if_pos (enteringConditions_of state vote votes empty fill idle)]
    rfl
  · simp only [exec, execRetainEntry]
    rw [if_pos ⟨entering, retainConditions_of clear refreshed⟩]
    rfl

end Sys2Proof.Machine.World
end

section
/-! The schedulers: what the opening arbiter and the column arbiter choose, and what each row of the Array, the Bank Scheduler
and the refresh timers does. -/

namespace Sys2Proof.Machine.Schedule

variable {s : State}

/-! ### The best of a list, the first between equals -/

/-- One step of a search for the best. -/
def pick {α : Type} (better : α → α → Bool) (best : Option α) (x : α) : Option α :=
  match best with
  | none => some x
  | some y => if better x y then some x else some y

section

variable {α : Type} {better : α → α → Bool}

/-- A search that starts from an element ends with the first best: those before it are worse, those after it not better. -/
theorem foldl_pick_some (trans : ∀ x y z, better x y = true → better y z = true → better x z = true)
    (gap : ∀ x y z, better x z = true → better y z = false → better x y = true) (l : List α) (a : α) :
    ∃ r before after, l.foldl (pick better) (some a) = some r ∧ a :: l = before ++ r :: after ∧
      (∀ x ∈ before, better r x = true) ∧ ∀ x ∈ after, better x r = false := by
  induction l generalizing a with
  | nil => exact ⟨a, [], [], rfl, rfl, nofun, nofun⟩
  | cons x t ih =>
    rw [List.foldl_cons]
    simp only [pick]
    cases h : better x a
    · obtain ⟨r, before, after, result, split, worse, rest⟩ := ih a
      refine ⟨r, ?_⟩
      cases before with
      | nil =>
        obtain ⟨rfl, rfl⟩ := List.cons.inj split
        exact ⟨[], x :: t, result, rfl, nofun, List.forall_mem_cons.2 ⟨h, rest⟩⟩
      | cons b before =>
        obtain ⟨rfl, rfl⟩ := List.cons.inj split
        obtain ⟨first, worse⟩ := List.forall_mem_cons.1 worse
        exact ⟨a :: x :: before, after, result, rfl,
          List.forall_mem_cons.2 ⟨first, List.forall_mem_cons.2 ⟨gap _ _ _ first h, worse⟩⟩, rest⟩
    · obtain ⟨r, before, after, result, split, worse, rest⟩ := ih x
      refine ⟨r, a :: before, after, result, congrArg (a :: ·) split, List.forall_mem_cons.2 ⟨?_, worse⟩, rest⟩
      cases before with
      | nil =>
        obtain ⟨rfl, -⟩ := List.cons.inj split
        exact h
      | cons b before =>
        obtain ⟨rfl, -⟩ := List.cons.inj split
        exact trans _ _ _ (worse x (List.mem_cons_self ..)) h

theorem foldl_pick_eq_some (trans : ∀ x y z, better x y = true → better y z = true → better x z = true)
    (gap : ∀ x y z, better x z = true → better y z = false → better x y = true) {l : List α} {r : α}
    (h : l.foldl (pick better) none = some r) :
    ∃ before after, l = before ++ r :: after ∧ (∀ x ∈ before, better r x = true) ∧ ∀ x ∈ after, better x r = false := by
  cases l with
  | nil => cases h
  | cons a t =>
    obtain ⟨r', before, after, result, rest⟩ := foldl_pick_some trans gap t a
    rw [List.foldl_cons] at h
    obtain rfl : r' = r := Option.some.inj (result.symm.trans h)
    exact ⟨before, after, rest⟩

theorem foldl_pick_eq_none (trans : ∀ x y z, better x y = true → better y z = true → better x z = true)
    (gap : ∀ x y z, better x z = true → better y z = false → better x y = true) {l : List α}
    (h : l.foldl (pick better) none = none) : l = [] := by
  cases l with
  | nil => rfl
  | cons a t =>
    obtain ⟨r, _, _, result, -⟩ := foldl_pick_some trans gap t a
    exact absurd (result.symm.trans h) nofun

end

/-! ### The oldest entry -/

theorem oldestOf_eq (l : List (Nat × Entry)) : oldestOf l = l.foldl (pick fun x y => x.2.older y.2) none := by
  unfold oldestOf pick
  congr 1
  funext best x
  cases best <;> rfl

theorem older_trans (x y z : Entry) (h : x.older y = true) (k : y.older z = true) : x.older z = true := by
  rw [older_iff] at *
  omega

theorem older_gap (x y z : Entry) (h : x.older z = true) (k : y.older z = false) : x.older y = true := by
  rw [← Bool.not_eq_true] at k
  rw [older_iff] at *
  omega

theorem older_asymm {x y : Entry} (h : x.older y = true) : y.older x = false := by
  rw [← Bool.not_eq_true]
  rw [older_iff] at *
  omega

theorem older_irrefl (x : Entry) : x.older x = false := by
  rw [← Bool.not_eq_true, older_iff]
  omega

/-- No entry of the list is older than its oldest. -/
theorem oldestOf_eq_some {l : List (Nat × Entry)} {x : Nat × Entry} (h : oldestOf l = some x) :
    x ∈ l ∧ ∀ y ∈ l, y.2.older x.2 = false := by
  obtain ⟨before, after, rfl, young, rest⟩ :=
    foldl_pick_eq_some (fun x y z => older_trans x.2 y.2 z.2) (fun x y z => older_gap x.2 y.2 z.2) (oldestOf_eq l ▸ h)
  refine ⟨List.mem_append_right _ (List.mem_cons_self ..), fun y hy => ?_⟩
  rcases List.mem_append.1 hy with hy | hy
  · exact older_asymm (young y hy)
  · rcases List.mem_cons.1 hy with rfl | hy
    · exact older_irrefl _
    · exact rest y hy

theorem oldestOf_eq_none {l : List (Nat × Entry)} (h : oldestOf l = none) : l = [] :=
  foldl_pick_eq_none (fun x y z => older_trans x.2 y.2 z.2) (fun x y z => older_gap x.2 y.2 z.2) (oldestOf_eq l ▸ h)

/-! ### The bank with the largest debt -/

theorem mostIndebted_eq (s : State) (l : List (Fin 16)) :
    s.mostIndebted l = l.foldl (pick fun b c => decide ((s.bank c).debt < (s.bank b).debt)) none := by
  unfold State.mostIndebted pick
  congr 1
  funext best b
  cases best with
  | none => rfl
  | some c => simp

theorem indebted_trans (s : State) (x y z : Fin 16) (h : decide ((s.bank y).debt < (s.bank x).debt) = true)
    (k : decide ((s.bank z).debt < (s.bank y).debt) = true) : decide ((s.bank z).debt < (s.bank x).debt) = true := by
  rw [decide_eq_true_iff] at *
  omega

theorem indebted_gap (s : State) (x y z : Fin 16) (h : decide ((s.bank z).debt < (s.bank x).debt) = true)
    (k : decide ((s.bank z).debt < (s.bank y).debt) = false) : decide ((s.bank y).debt < (s.bank x).debt) = true := by
  rw [decide_eq_false_iff_not] at k
  rw [decide_eq_true_iff] at *
  omega

theorem mostIndebted_eq_some {f : Fin 16 → Bool} {b : Fin 16} (h : s.mostIndebted (allBanks.filter f) = some b) :
    f b = true ∧ ∀ c, f c = true → (s.bank c).debt < (s.bank b).debt ∨ ((s.bank c).debt = (s.bank b).debt ∧ b ≤ c) := by
  rw [mostIndebted_eq] at h
  obtain ⟨before, after, split, worse, rest⟩ := foldl_pick_eq_some (indebted_trans s) (indebted_gap s) h
  have sorted : (allBanks.filter f).Pairwise (· < ·) := (List.pairwise_lt_finRange 16).filter _
  have mem : ∀ c, c ∈ before ++ b :: after ↔ f c = true := fun c => by
    rw [← split, List.mem_filter]
    exact ⟨fun h => h.2, fun h => ⟨mem_allBanks c, h⟩⟩
  refine ⟨(mem b).1 (List.mem_append_right _ (List.mem_cons_self ..)), fun c hc => ?_⟩
  rcases List.mem_append.1 ((mem c).2 hc) with hc | hc
  · exact .inl (of_decide_eq_true (worse c hc))
  · rcases List.mem_cons.1 hc with rfl | hc
    · exact .inr ⟨rfl, le_refl _⟩
    · rw [split, List.pairwise_append] at sorted
      obtain ⟨-, tail, -⟩ := sorted
      have less : b < c := (List.pairwise_cons.1 tail).1 c hc
      have := of_decide_eq_false (rest c hc)
      rcases Nat.lt_or_ge (s.bank c).debt (s.bank b).debt with lt | ge
      · exact .inl lt
      · exact .inr ⟨by omega, le_of_lt less⟩

theorem mostIndebted_eq_none {f : Fin 16 → Bool} (h : s.mostIndebted (allBanks.filter f) = none) (c : Fin 16) :
    f c = false := by
  rw [mostIndebted_eq] at h
  have empty := foldl_pick_eq_none (indebted_trans s) (indebted_gap s) h
  rw [List.filter_eq_nil_iff] at empty
  exact Bool.eq_false_of_not_eq_true (empty c (mem_allBanks c))

/-! ### The opening arbiter (R50 to R52) -/

theorem queuedOn_iff (e : Entry) (b : Fin 16) : e.queuedOn b = true ↔ e.state = .queued ∧ bankOf e.first = b :=
  decide_eq_true_iff

theorem class1_iff (s : State) (b : Fin 16) : s.class1 b = true ↔ (s.bank b).state = .closed ∧ 6 ≤ (s.bank b).debt := by
  simp [State.class1, State.urgent]

theorem class2_iff (s : State) (b : Fin 16) : s.class2 b = true ↔
    (s.bank b).state = .closed ∧ (s.bank b).debt ≤ 5 ∧ ∃ x ∈ s.table, x.2.queuedOn b = true := by
  have queue : (!s.queueEmpty b) = true ↔ ∃ x ∈ s.table, x.2.queuedOn b = true := by simp [State.queueEmpty]
  unfold State.class2
  rw [Bool.and_eq_true, Bool.and_eq_true, queue]
  simp only [decide_eq_true_eq, State.urgent, Bool.not_eq_true', decide_eq_false_iff_not, and_assoc, Nat.not_le]
  exact and_congr_right fun _ => and_congr_left fun _ => Nat.lt_succ_iff

theorem class3_iff (s : State) (b : Fin 16) : s.class3 b = true ↔
    (s.bank b).state = .closed ∧ 1 ≤ (s.bank b).debt ∧ (s.bank b).debt ≤ 5 ∧ ∀ x ∈ s.table, x.2.queuedOn b = false := by
  unfold State.class3
  rw [Bool.and_eq_true, Bool.and_eq_true, queueEmpty_iff]
  simp only [decide_eq_true_eq, State.urgent, Bool.not_eq_true', decide_eq_false_iff_not, and_assoc, Nat.not_le]
  exact and_congr_right fun _ => and_congr_right fun _ => and_congr_left fun _ => Nat.lt_succ_iff

/-- The entries the opening arbiter's row opens come from: queued on a class-2 bank. -/
def State.rowOpens (s : State) : List (Nat × Entry) :=
  s.table.filter fun x => decide (x.2.state = .queued) && s.class2 (bankOf x.2.first)

theorem mem_rowOpens {x : Nat × Entry} : x ∈ State.rowOpens s ↔
    x ∈ s.table ∧ x.2.state = .queued ∧ s.class2 (bankOf x.2.first) = true := by
  rw [State.rowOpens, List.mem_filter, Bool.and_eq_true, decide_eq_true_eq]

/-- Where no CLOSED bank is urgent, an entry queued on a CLOSED bank is one of the row opens. -/
theorem mem_rowOpens_of_closed (calm : ∀ c, (s.bank c).state = .closed → (s.bank c).debt ≤ 5) {y : Nat × Entry}
    (hy : y ∈ s.table) {c : Fin 16} (queued : y.2.queuedOn c = true) (closed : (s.bank c).state = .closed) :
    y ∈ State.rowOpens s := by
  obtain ⟨state, rfl⟩ := (queuedOn_iff _ _).1 queued
  exact mem_rowOpens.2 ⟨hy, state, (class2_iff _ _).2 ⟨closed, calm _ closed, y, hy, queued⟩⟩

theorem calm_of_class1_none (h : s.mostIndebted (allBanks.filter s.class1) = none) (c : Fin 16)
    (closed : (s.bank c).state = .closed) : (s.bank c).debt ≤ 5 := by
  have := mostIndebted_eq_none h c
  rw [← Bool.not_eq_true, class1_iff] at this
  rcases Nat.lt_or_ge 5 (s.bank c).debt with lt | ge
  · exact absurd ⟨closed, lt⟩ this
  · exact ge

/-- Settles O18: the three classes in order, the best of each. -/
theorem openingArbiterChoosesByClass : Obligations.OpeningArbiterChoosesByClass := by
  intro s
  unfold State.openingChoice
  cases urgent : s.mostIndebted (allBanks.filter s.class1) with
  | some b =>
    obtain ⟨class1, best⟩ := mostIndebted_eq_some urgent
    obtain ⟨closed, debt⟩ := (class1_iff s b).1 class1
    refine ⟨fun b' o h => ?_, nofun⟩
    obtain ⟨rfl, rfl⟩ := Prod.mk.inj (Option.some.inj h)
    refine ⟨closed, .inl ⟨rfl, debt, fun c hc => ?_⟩⟩
    rcases Nat.lt_or_ge (s.bank c).debt 6 with lt | ge
    · exact .inl (by omega)
    · exact best c ((class1_iff s c).2 ⟨hc, ge⟩)
  | none =>
    have calm := calm_of_class1_none urgent
    simp only
    cases pending : s.calPending
    case true => exact ⟨nofun, fun _ c closed => ⟨calm c closed, nofun⟩⟩
    simp only [Bool.false_eq_true, if_false]
    have rows : oldestOf (s.table.filter fun x => decide (x.2.state = .queued) && s.class2 (bankOf x.2.first)) =
        oldestOf (State.rowOpens s) := rfl
    rw [rows]
    cases row : oldestOf (State.rowOpens s) with
    | some x =>
      obtain ⟨mem, oldest⟩ := oldestOf_eq_some row
      obtain ⟨inTable, queued, class2⟩ := mem_rowOpens.1 mem
      refine ⟨fun b o h => ?_, nofun⟩
      obtain ⟨rfl, rfl⟩ := Prod.mk.inj (Option.some.inj h)
      exact ⟨((class2_iff _ _).1 class2).1, .inr ⟨calm, trivial, .inl ⟨x, inTable, (queuedOn_iff _ _).2 ⟨queued, rfl⟩, rfl,
        fun y hy c hc closed => oldest y (mem_rowOpens_of_closed calm hy hc closed)⟩⟩⟩
    | none =>
      have noRow : ∀ y ∈ s.table, ∀ c, y.2.queuedOn c = true → (s.bank c).state ≠ .closed := fun y hy c hc closed => by
        have := mem_rowOpens_of_closed calm hy hc closed
        rw [oldestOf_eq_none row] at this
        cases this
      have empty : ∀ c, (s.bank c).state = .closed → ∀ y ∈ s.table, y.2.queuedOn c = false := fun c closed y hy =>
        Bool.eq_false_of_not_eq_true fun queued => noRow y hy c queued closed
      refine ⟨fun b o h => ?_, fun h c closed => ⟨calm c closed, fun _ => ⟨?_, empty c closed⟩⟩⟩
      · obtain ⟨b', most, h⟩ := Option.map_eq_some_iff.1 h
        obtain ⟨rfl, rfl⟩ := Prod.mk.inj h
        obtain ⟨class3, best⟩ := mostIndebted_eq_some most
        obtain ⟨closed, debt, -, -⟩ := (class3_iff _ _).1 class3
        refine ⟨closed, .inr ⟨calm, trivial, .inr ⟨rfl, debt, noRow, fun c hc => ?_⟩⟩⟩
        rcases Nat.eq_zero_or_pos (s.bank c).debt with zero | pos
        · exact .inl (by omega)
        · exact best c ((class3_iff _ _).2 ⟨hc, pos, calm c hc, empty c hc⟩)
      · have none3 := mostIndebted_eq_none (Option.map_eq_none_iff.1 h) c
        rw [← Bool.not_eq_true, class3_iff] at none3
        rcases Nat.eq_zero_or_pos (s.bank c).debt with zero | pos
        · exact zero
        · exact absurd ⟨closed, pos, calm c closed, empty c closed⟩ none3

/-! ### Opening grants (R48, R49, R52) -/

theorem passedSince_iff (now : Time) (ended : Option Time) (span : Time) :
    passedSince now ended span = true ↔ ∀ t, ended = some t → t + span ≤ now := by
  cases ended with
  | none => exact ⟨fun _ => nofun, fun _ => rfl⟩
  | some t => exact ⟨fun h u e => by cases e; exact of_decide_eq_true h, fun h => decide_eq_true (h t rfl)⟩

theorem openingMoment_iff (s : State) : s.openingMoment = true ↔
    (s.window.filter fun t => s.now < t + ns 36).length < 5 ∧ (∀ t, s.spacing = some t → t + ns 5 ≤ s.now) ∧
      s.calRunDue = none ∧ s.power.exitDue = none ∧ (s.calPending = false ∨ ∃ c, (s.bank c).state ≠ .closed) := by
  have run : (!(s.calPending && s.allClosed)) = true ↔ s.calPending = false ∨ ∃ c, (s.bank c).state ≠ .closed := by
    rw [Bool.not_eq_true', Bool.and_eq_false_iff, ← Bool.not_eq_true s.allClosed, allClosed_iff, not_forall]
  unfold State.openingMoment State.openingAllowed
  rw [Bool.and_eq_true, Bool.and_eq_true, Bool.and_eq_true, Bool.and_eq_true, passedSince_iff, run, decide_eq_true_iff,
    Option.isNone_iff_eq_none, Option.isNone_iff_eq_none, and_assoc, and_assoc, and_assoc]
  rfl

/-- Settles O19: the moment as a proposition; the grant begins what the candidate asks. -/
theorem openingGrantBegins : Obligations.OpeningGrantBegins := by
  refine ⟨fun s b o choice window spacing normal nap calibration => ?_, fun s h => ?_⟩
  · simp only [exec, execOpeningGrant, choice]
    rw [if_pos ((openingMoment_iff s).2 ⟨window, spacing, normal, nap, calibration⟩)]
    cases o <;> rfl
  · simp only [exec, execOpeningGrant]
    split
    · next choice =>
      rw [if_neg]
      rw [openingMoment_iff]
      rintro ⟨window, spacing, normal, nap, calibration⟩
      rcases h with h | h | ⟨t, h, running⟩ | h | h | ⟨pending, closed⟩
      · rw [h] at choice
        cases choice
      · exact absurd window (Nat.not_lt.2 h)
      · exact absurd running (Nat.not_lt.2 (spacing t h))
      · exact h normal
      · exact h nap
      · rcases calibration with clear | ⟨c, use⟩
        · rw [pending] at clear
          cases clear
        · exact use (closed c)
    · rfl

/-! ### Completions -/

/-- Settles O20: each completion is its equation at the time due. -/
theorem bankOperationsComplete : Obligations.BankOperationsComplete := by
  refine ⟨fun s b due => ⟨fun h => ?_, fun h => ?_, fun h => ?_, fun h => ?_⟩,
    fun s b t => ⟨fun h => ?_, fun h => ?_, fun d dir last => ?_, fun h => ?_, fun rest h => ?_⟩⟩
  · simp only [exec, execOpenDelayComplete, h]
    rfl
  · simp only [exec, execMinimumOpenComplete, h]
    rfl
  · simp only [exec, execRefreshComplete, h]
    rfl
  · simp only [exec, execCloseComplete, h]
    congr 2
    exact if_congr (by rw [Bool.and_eq_true, ranDown_iff]; rfl) rfl rfl
  · simp only [exec, execReadToCloseComplete, h]
    rfl
  · simp only [exec, execWriteRecoveryComplete, h]
    rfl
  · simp only [exec, execTurnaroundComplete, dir, last]
    cases d <;> rfl
  · have passes : s.minimumPasses s.spacing openingSpacing = s.at (t + ns 5) := by rw [h]; rfl
    exact congrArg Host.Outcome.next passes
  · simp only [exec, execWindowSlotExpiry, h]
    rfl

/-! ### Closes (R54, R55) -/

theorem rowMissDecision_iff {b : Fin 16} (opened : (s.bank b).state = .opened) : s.rowMissDecision b = true ↔
    (∃ x ∈ s.table, x.2.queuedOn b = true) ∧
      ∀ x ∈ s.table, x.2.queuedOn b = true → (s.bank b).openRow ≠ some (rowOf x.2.first) := by
  have queue : (!s.queueEmpty b) = true ↔ ∃ x ∈ s.table, x.2.queuedOn b = true := by simp [State.queueEmpty]
  unfold State.rowMissDecision State.hasRowHit
  rw [Bool.and_eq_true, queue]
  refine and_congr_right fun _ => ?_
  rw [Bool.not_eq_true', List.any_eq_false]
  refine forall₂_congr fun x _ => ?_
  rw [Bool.and_eq_true, not_and]
  refine forall_congr' fun queued => ?_
  obtain ⟨state, rfl⟩ := (queuedOn_iff _ _).1 queued
  simp [State.rowHit, state, opened]

theorem closeDecision_iff {b : Fin 16} (opened : (s.bank b).state = .opened) : s.closeDecision b = true ↔
    ((∃ x ∈ s.table, x.2.queuedOn b = true) ∧
        ∀ x ∈ s.table, x.2.queuedOn b = true → (s.bank b).openRow ≠ some (rowOf x.2.first)) ∨
      s.store.hitLimit ≤ (s.bank b).hitStreak ∨ (s.bank b).idleDecision = true ∨ 6 ≤ (s.bank b).debt ∨
      ∃ k, s.maint.cal = .pending k := by
  unfold State.closeDecision State.hitLimitReached State.urgent
  rw [Bool.or_eq_true, Bool.or_eq_true, Bool.or_eq_true, Bool.or_eq_true, rowMissDecision_iff opened, calPending_iff,
    decide_eq_true_iff, decide_eq_true_iff, or_assoc, or_assoc, or_assoc]

theorem accessInProgress_eq_false_iff (s : State) (b : Fin 16) :
    (!s.accessInProgress b) = true ↔ ∀ f, s.path.flight = some f → f.bank ≠ b := by
  unfold State.accessInProgress
  cases s.path.flight with
  | none => exact ⟨fun _ => nofun, fun _ => rfl⟩
  | some f => simp

theorem mayClose_iff (s : State) (b : Fin 16) : s.mayClose b = true ↔
    (s.bank b).state = .opened ∧ (s.bank b).minOpenDone = true ∧
      (∀ f, s.path.flight = some f → f.bank ≠ b) ∧ (∀ t, (s.bank b).lastReadEnd = some t → t + ns 6 ≤ s.now) ∧
      (∀ t, (s.bank b).lastWriteEnd = some t → t + ns 15 ≤ s.now) ∧
      (s.runDown = true ∨
        (s.closeDecision b = true ∧ ∀ x ∈ s.table, x.2.state = .inUpdate → bankOf x.2.first ≠ b)) := by
  have decision : (s.runDown || (s.closeDecision b && !s.pinned b)) = true ↔ s.runDown = true ∨
      (s.closeDecision b = true ∧ ∀ x ∈ s.table, x.2.state = .inUpdate → bankOf x.2.first ≠ b) := by
    rw [Bool.or_eq_true, Bool.and_eq_true, Bool.not_eq_true', pinned_eq_false_iff]
  unfold State.mayClose State.closeReady
  rw [Bool.and_eq_true, Bool.and_eq_true, Bool.and_eq_true, Bool.and_eq_true, Bool.and_eq_true, decision,
    accessInProgress_eq_false_iff, passedSince_iff, passedSince_iff, decide_eq_true_iff, and_assoc, and_assoc, and_assoc,
    and_assoc]
  rfl

/-- Settles O21: the decision and the readiness as propositions. -/
theorem closeBeginsOnItsDecision : Obligations.CloseBeginsOnItsDecision := by
  refine ⟨fun s b opened => closeDecision_iff opened, fun s b => ⟨fun ready => ?_, fun not => ?_⟩⟩
  · simp only [exec, execCloseBegin]
    rw [if_pos ((mayClose_iff s b).2 ready)]
    rfl
  · simp only [exec, execCloseBegin]
    rw [if_neg (mt (mayClose_iff s b).1 not)]

/-! ### The idle-close timer (R57) -/

theorem bank_settle (s : State) (b : Fin 16) : s.settle.bank b = s.settleBank b (s.bank b) := by
  simp [State.settle, State.bank]

theorem idleDecision_settleBank {b : Fin 16} {r : Bank} (opened : s.idleCloseConditions b = true → r.state = .opened)
    (h : (s.settleBank b r).idleDecision = true) : r.state = .opened ∧ s.queueEmpty b = true := by
  have empty : s.idleCloseConditions b = true → s.queueEmpty b = true := fun c => by
    obtain ⟨-, -, queue, -⟩ := (idleCloseConditions_iff s b).1 c
    exact (queueEmpty_iff s b).2 queue
  unfold State.settleBank at h
  simp only at h
  split at h
  · next c => exact ⟨opened c, empty c⟩
  · simp only [Bool.and_eq_true, decide_eq_true_eq] at h
    exact ⟨h.1.1.2, h.1.2⟩

/-- Settles O22: settling is `State.settleBank`, bank by bank. -/
theorem idleCloseTimerFollowsItsConditions : Obligations.IdleCloseTimerFollowsItsConditions := by
  intro s b
  have decision (conditions : s.idleCloseConditions b = true) :
      ((s.bank b).idleDecision && decide ((s.bank b).state = .opened) && s.queueEmpty b && !s.runDown) =
        (s.bank b).idleDecision := by
    obtain ⟨opened, running, queue, -⟩ := (idleCloseConditions_iff s b).1 conditions
    rw [opened, running, (queueEmpty_iff s b).2 queue]
    simp
  refine ⟨idleCloseConditions_iff s b, fun conditions stopped clear => ?_, fun conditions h => ?_, fun h => ?_, fun h => ?_,
    fun due h => ?_⟩
  · rw [bank_settle]
    unfold State.settleBank
    simp only [decision conditions]
    rw [if_pos conditions, stopped, clear, if_neg (by decide)]
  · rw [bank_settle]
    unfold State.settleBank
    simp only [decision conditions, conditions, if_true]
    rw [if_pos]
    rcases h with h | h
    · rw [Option.isSome_iff_ne_none.2 h, Bool.or_true]
    · rw [h, Bool.true_or]
  · rw [bank_settle]
    exact settleBank_idleDue_none s b _ h
  · rw [bank_settle] at h
    obtain ⟨opened, empty⟩ := idleDecision_settleBank (fun c => ((idleCloseConditions_iff s b).1 c).1) h
    exact ⟨opened, (queueEmpty_iff s b).1 empty⟩
  · simp only [exec, execIdleCloseExpiry, h]
    rfl

/-! ### Refresh intervals (R87 to R89) -/

theorem refreshInterval_eq (hot : Bool) : refreshInterval hot = if hot then 1000000 else 2000000 := by cases hot <;> rfl

/-- Settles O23: the two branches of the expiry, by the debt. -/
theorem intervalExpiryRaisesDebt : Obligations.IntervalExpiryRaisesDebt := by
  intro s b due h
  have expired : exec (.intervalExpiry b) s = .next ((s.at due).intervalExpires b) := by
    simp only [exec, execIntervalExpiry, h]
  have debt : ((s.at due).bank b).debt = (s.bank b).debt := rfl
  simp only [expired, State.intervalExpires, debt, refreshInterval_eq]
  refine ⟨fun low => ?_, fun high => ?_⟩
  · rw [if_pos low]
    rfl
  · rw [if_neg (Nat.not_lt.2 high)]
    rfl

/-! ### The column arbiter (R10, R60, R61) -/

theorem columnStopped_iff (s : State) : s.columnStopped = true ↔ s.power.state = .held ∨ s.runDown = true := by
  simp [State.columnStopped]

theorem flight_slot_iff (s : State) (k : Nat) :
    s.path.flight.bind (·.slot) ≠ some k ↔ ∀ f, s.path.flight = some f → f.slot ≠ some k := by
  cases s.path.flight with
  | none => exact ⟨fun _ => nofun, fun _ => nofun⟩
  | some f => exact ⟨fun h g e => by cases e; exact h, fun h => h f rfl⟩

theorem rowHit_iff (s : State) (e : Entry) : s.rowHit e = true ↔ e.state = .queued ∧
    (s.bank (bankOf e.first)).state = .opened ∧ (s.bank (bankOf e.first)).openRow = some (rowOf e.first) :=
  decide_eq_true_iff

theorem blocked_eq_false_iff (s : State) (b : Fin 16) : s.blocked b = false ↔
    (s.bank b).hitStreak < s.store.hitLimit ∧ (s.bank b).debt ≤ 5 ∧ s.calPending = false := by
  unfold State.blocked State.hitLimitReached State.urgent
  rw [Bool.or_eq_false_iff, Bool.or_eq_false_iff, decide_eq_false_iff_not, decide_eq_false_iff_not, Nat.not_le, Nat.not_le,
    and_assoc]
  exact and_congr_right fun _ => and_congr_left fun _ => Nat.lt_succ_iff

/-- The write-backs that wait. -/
def State.writeBacks (s : State) : List (Nat × Entry) :=
  s.table.filter fun x => decide (x.2.state = .inUpdate ∧ s.path.flight.bind (·.slot) ≠ some x.1)

theorem mem_writeBacks {x : Nat × Entry} : x ∈ State.writeBacks s ↔
    x ∈ s.table ∧ x.2.state = .inUpdate ∧ ∀ f, s.path.flight = some f → f.slot ≠ some x.1 := by
  rw [State.writeBacks, List.mem_filter, decide_eq_true_eq, flight_slot_iff]

theorem writeBackChoice_eq (s : State) :
    s.writeBackChoice = if s.columnStopped then none else oldestOf (State.writeBacks s) := rfl

/-- The first accesses that may be granted. -/
def State.firstAccesses (s : State) : List (Nat × Entry) :=
  s.table.filter fun x => s.rowHit x.2 && !s.blocked (bankOf x.2.first)

theorem mem_firstAccesses {x : Nat × Entry} : x ∈ State.firstAccesses s ↔
    x ∈ s.table ∧ s.rowHit x.2 = true ∧ s.blocked (bankOf x.2.first) = false := by
  rw [State.firstAccesses, List.mem_filter, Bool.and_eq_true, Bool.not_eq_true']

theorem firstAccessChoice_eq (s : State) :
    s.firstAccessChoice = if s.columnStopped then none else oldestOf (State.firstAccesses s) := rfl

theorem writeBackChoice_some {x : Nat × Entry} (h : s.writeBackChoice = some x) :
    x ∈ s.table ∧ x.2.state = .inUpdate ∧ (∀ f, s.path.flight = some f → f.slot ≠ some x.1) ∧
      ∀ y ∈ s.table, y.2.state = .inUpdate → (∀ f, s.path.flight = some f → f.slot ≠ some y.1) → y.2.older x.2 = false := by
  rw [writeBackChoice_eq] at h
  split at h
  · cases h
  · obtain ⟨mem, oldest⟩ := oldestOf_eq_some h
    obtain ⟨inTable, state, waits⟩ := mem_writeBacks.1 mem
    exact ⟨inTable, state, waits, fun y hy update notGranted => oldest y (mem_writeBacks.2 ⟨hy, update, notGranted⟩)⟩

theorem firstAccessChoice_some {x : Nat × Entry} (h : s.firstAccessChoice = some x) :
    x ∈ s.table ∧ s.rowHit x.2 = true ∧ s.blocked (bankOf x.2.first) = false ∧
      ∀ y ∈ s.table, s.rowHit y.2 = true → s.blocked (bankOf y.2.first) = false → y.2.older x.2 = false := by
  rw [firstAccessChoice_eq] at h
  split at h
  · cases h
  · obtain ⟨mem, oldest⟩ := oldestOf_eq_some h
    obtain ⟨inTable, hit, free⟩ := mem_firstAccesses.1 mem
    exact ⟨inTable, hit, free, fun y hy hits unblocked => oldest y (mem_firstAccesses.2 ⟨hy, hits, unblocked⟩)⟩

theorem pathAllows_iff (s : State) (d : Direction) : s.pathAllows d = true ↔ s.path.flight = none ∧
    (s.path.dir = none ∨ s.path.dir = some d ∨
      ∃ e, s.path.dir = some e ∧ ∀ t, s.path.lastEnd = some t → t + (if e = .write then ns 6 else ns 2) ≤ s.now) := by
  have turn : ∀ e, turnaround e = if e = .write then ns 6 else ns 2 := fun e => by cases e <;> rfl
  unfold State.pathAllows
  rw [Bool.and_eq_true, Option.isNone_iff_eq_none]
  refine and_congr_right fun _ => ?_
  cases s.path.dir with
  | none => simp
  | some e => simp [passedSince_iff, turn]

/-- Settles O24: what is chosen is the oldest of the candidates, and none is chosen only where there is no candidate. -/
theorem columnArbiterChoosesTheOldest : Obligations.ColumnArbiterChoosesTheOldest := by
  refine ⟨fun s x => ⟨writeBackChoice_some, fun h => ?_, fun stopped => ?_, fun state running => ⟨fun h y hy update => ?_,
    fun h y hy queued opened row => ?_⟩⟩, pathAllows_iff⟩
  · obtain ⟨inTable, hit, free, oldest⟩ := firstAccessChoice_some h
    obtain ⟨queued, opened, row⟩ := (rowHit_iff s _).1 hit
    obtain ⟨streak, debt, calm⟩ := (blocked_eq_false_iff s _).1 free
    exact ⟨inTable, queued, opened, row, streak, debt, calm, oldest⟩
  · have := (columnStopped_iff s).2 stopped
    rw [writeBackChoice_eq, firstAccessChoice_eq, if_pos this, if_pos this]
    exact ⟨rfl, rfl⟩
  · have going : ¬ s.columnStopped = true := by simp [columnStopped_iff, state, running]
    rw [writeBackChoice_eq, if_neg going] at h
    by_contra none
    have : y ∈ State.writeBacks s := mem_writeBacks.2 ⟨hy, update, fun f hf slot => none ⟨f, hf, slot⟩⟩
    rw [oldestOf_eq_none h] at this
    cases this
  · have going : ¬ s.columnStopped = true := by simp [columnStopped_iff, state, running]
    rw [firstAccessChoice_eq, if_neg going] at h
    by_contra allowed
    have calm : s.blocked (bankOf y.2.first) = false := by
      rw [blocked_eq_false_iff]
      rw [not_or, not_or, Nat.not_le, Nat.not_le, Bool.not_eq_true] at allowed
      exact ⟨allowed.1, Nat.lt_succ_iff.1 allowed.2.1, allowed.2.2⟩
    have : y ∈ State.firstAccesses s := mem_firstAccesses.2 ⟨hy, (rowHit_iff s _).2 ⟨queued, opened, row⟩, calm⟩
    rw [oldestOf_eq_none h] at this
    cases this

/-! ### Grants of the column path (R61 to R63) -/

theorem olderRowMiss_iff (s : State) (b : Fin 16) (e : Entry) : s.olderRowMiss b e = true ↔
    ∃ x ∈ s.table, x.2.queuedOn b = true ∧ x.2.older e = true ∧ some (rowOf x.2.first) ≠ (s.bank b).openRow := by
  unfold State.olderRowMiss
  rw [List.any_eq_true]
  refine exists_congr fun x => and_congr_right fun _ => ?_
  rw [Bool.and_eq_true, Bool.and_eq_true, decide_eq_true_eq, and_assoc]

/-- Settles O25: the grants are their equations. -/
theorem columnGrantsStartTheAccess : Obligations.ColumnGrantsStartTheAccess := by
  refine ⟨fun s => ⟨fun k e none chosen allows => ⟨s.nextStreak (bankOf e.first) e, fun older => ?_, fun hits => ?_, ?_⟩,
    fun waits => ?_⟩, fun s k e chosen => ⟨fun allows => ?_, fun refused => ?_⟩⟩
  · unfold State.nextStreak
    rw [if_pos ((olderRowMiss_iff s _ e).2 older)]
  · unfold State.nextStreak
    rw [if_neg]
    rw [olderRowMiss_iff]
    rintro ⟨x, hx, queued, older, miss⟩
    exact miss (hits x hx queued older)
  · simp only [exec, execFirstAccessGrant, none, chosen]
    rw [if_pos allows]
    rfl
  · simp only [exec, execFirstAccessGrant]
    split
    · next none _ => exact absurd none waits
    · rfl
  · simp only [exec, execWriteBackGrant, chosen]
    rw [if_pos allows]
  · simp only [exec, execWriteBackGrant, chosen]
    rw [if_neg (by rw [refused]; exact Bool.false_ne_true)]

/-! ### The accesses (R11, R12, R62, R63) -/

theorem partialMask_iff (m : BitVec 32) : partialMask m = true ↔ m ≠ 0#32 ∧ m ≠ BitVec.allOnes 32 := decide_eq_true_iff

theorem noPartialBlock_iff (masks : List (BitVec 32)) :
    noPartialBlock masks = true ↔ ∀ m ∈ masks, m = 0#32 ∨ m = BitVec.allOnes 32 := by
  unfold noPartialBlock
  rw [List.all_eq_true]
  refine forall₂_congr fun m _ => ?_
  rw [Bool.not_eq_true', ← Bool.not_eq_true, partialMask_iff, not_and_or, not_not, not_not]

theorem positionsOf_fullMask (masks : List (BitVec 32)) : positionsOf fullMask masks =
    (List.range masks.length).filter fun i => masks.getD i 0#32 = BitVec.allOnes 32 := by
  rw [positionsOf_eq_filter]
  refine List.filter_congr fun i hi => ?_
  rw [List.mem_range] at hi
  simp [fullMask, hi]

theorem firstFlight_read (now : Time) (k : Nat) {e : Entry} (h : e.writesFirst = false) :
    firstFlight now k e = ⟨some k, bankOf e.first, .read, e.first, e.count, [], now + ns (12 + 2 * e.count)⟩ := by
  unfold firstFlight
  rw [h]
  rfl

theorem firstFlight_write (now : Time) (k : Nat) {e : Entry} (h : e.writesFirst = true) :
    firstFlight now k e = ⟨some k, bankOf e.first, .write, e.first, e.count, e.firstWrites,
      now + ns (2 * e.firstWrites.length)⟩ := by
  unfold firstFlight
  rw [h]
  rfl

/-- Settles O26: by the kind, the first access reads or writes. -/
theorem accessesTakeTheirBlocks : Obligations.AccessesTakeTheirBlocks := by
  refine fun now k e => ⟨fun reads => firstFlight_read now k ?_, fun writes => ?_, fun masks kind whole => ?_, ?_⟩
  · unfold Entry.writesFirst
    rcases reads with h | h | ⟨op, o, a, b, h⟩ | ⟨masks, h, m, hm, nonempty, partly⟩
    · rw [h]
    · rw [h]
    · rw [h]
    · rw [h]
      rw [← Bool.not_eq_true, noPartialBlock_iff]
      exact fun whole => (whole m hm).elim nonempty partly
  · have all : e.writesFirst = true ∧ e.firstWrites = (List.range e.count).map fun i => (e.first + i, e.data.getD i []) := by
      unfold Entry.writesFirst Entry.firstWrites Entry.writesAt
      rcases writes with h | h
      · rw [h]
        exact ⟨rfl, rfl⟩
      · rw [h]
        exact ⟨rfl, rfl⟩
    rw [firstFlight_write now k all.1, all.2, List.length_map, List.length_range]
  · have first : e.writesFirst = true := by
      unfold Entry.writesFirst
      rw [kind]
      exact (noPartialBlock_iff masks).2 whole
    have blocks : e.firstWrites = ((List.range masks.length).filter fun i => masks.getD i 0#32 = BitVec.allOnes 32).map
        fun i => (e.first + i, e.data.getD i []) := by
      unfold Entry.firstWrites Entry.writesAt
      rw [kind]
      simp only
      rw [positionsOf_fullMask]
    rw [firstFlight_write now k first, blocks, List.length_map]
  · rfl

end Sys2Proof.Machine.Schedule
end

section
/-! Transfers and reports: what a transfer's end hands on and stores, what an entry keeps of its blocks, and what a report
leaves in the Error Record Table. -/

namespace Sys2Proof.Machine.Transfer

open Sys2Proof.Machine.Schedule

variable {s : State}

/-! ### The end of a read (R11, R67) -/

theorem readRange_eq (s : State) (first count : Nat) : s.readRange first count = (List.range count).map fun i =>
    match s.condition (first + i) with
    | .good => ⟨.ok, (List.range 32).map fun j => s.byteAt (32 * (first + i) + j)⟩
    | .correctable => ⟨.corrected, (List.range 32).map fun j => s.byteAt (32 * (first + i) + j)⟩
    | .uncorrectable => ⟨.poisoned, List.replicate 32 0#8⟩ := by
  unfold State.readRange
  refine List.map_congr_left fun i _ => ?_
  rw [readBlock_eq]
  cases s.condition (first + i) <;> rfl

/-- A second value for a bank replaces the first. -/
theorem setBank_setBank (s : State) (b : Fin 16) (r r' : Bank) : (s.setBank b r).setBank b r' = s.setBank b r' := by
  unfold State.setBank
  simp only [Vector.set_set]

theorem readEnds_unowned (s : State) {f : Flight} (slot : f.slot = none) : s.readEnds f = State.settleRunDown { s with
    now := max s.now f.due
    path := ⟨none, some .read, some (max s.now f.due)⟩
    banks := s.banks.set f.bank { s.bank f.bank with lastReadEnd := some (max s.now f.due) } } := by
  unfold State.readEnds
  rw [slot]
  rfl

theorem readEnds_owned (s : State) {f : Flight} {k : Nat} {e : Entry} (slot : f.slot = some k) (he : s.entry k = some e) :
    s.readEnds f = State.entryRead { s with
      now := max s.now f.due
      path := ⟨none, some .read, some (max s.now f.due)⟩
      banks := s.banks.set f.bank { s.bank f.bank with
        lastReadEnd := some (max s.now f.due)
        corrected := min 65535 ((s.bank f.bank).corrected + correctedIn (s.readRange f.first f.count)) } } k e
      (s.readRange f.first f.count) := by
  have same : ∀ u : State, u.table = s.table → u.entry k = some e := fun u h => by
    unfold State.entry
    rw [h]
    exact he
  unfold State.readEnds State.countCorrected
  simp only [slot]
  rw [setBank_setBank, bank_setBank_self, same _ (by exact rfl)]
  rfl

/-- Settles O27: the blocks are classified by their conditions, and the entry's record decides where it goes. -/
theorem readTransferEndHandsTheBlocksOn : Obligations.ReadTransferEndHandsTheBlocksOn := by
  intro s f flight dir
  have ends : exec .readTransferEnd s = .next (s.readEnds f).finish := by
    simp only [exec, execReadTransferEnd, flight]
    rw [if_pos dir]
  intro blocks count u
  have handed : blocks = s.readRange f.first f.count := (readRange_eq s f.first f.count).symm
  clear_value blocks
  subst handed
  rw [ends]
  refine ⟨fun slot => ?_, fun k e slot he => ?_⟩
  · rw [readEnds_unowned s slot]
  · rw [readEnds_owned s slot he]
    unfold State.entryRead
    exact congrArg (fun u : State => Host.Outcome.next u.finish) (if_congr List.isEmpty_iff rfl rfl)

/-! ### What a READ and a SCRUB keep (R69, R70, R110) -/

theorem rangeStatus_poisoned_iff (classes : List ReadClass) : rangeStatus classes = .poisoned ↔ .poisoned ∈ classes := by
  unfold rangeStatus
  by_cases p : ReadClass.poisoned ∈ classes
  · simp [p]
  · by_cases c : ReadClass.corrected ∈ classes
    · simp [p, c]
    · simp [p, c]

theorem rangeStatus_corrected_iff (classes : List ReadClass) :
    rangeStatus classes = .corrected ↔ .poisoned ∉ classes ∧ .corrected ∈ classes := by
  unfold rangeStatus
  by_cases p : ReadClass.poisoned ∈ classes
  · simp [p]
  · by_cases c : ReadClass.corrected ∈ classes
    · simp [p, c]
    · simp [p, c]

theorem rangeStatus_ok_iff (classes : List ReadClass) :
    rangeStatus classes = .ok ↔ .poisoned ∉ classes ∧ .corrected ∉ classes := by
  unfold rangeStatus
  by_cases p : ReadClass.poisoned ∈ classes
  · simp [p]
  · by_cases c : ReadClass.corrected ∈ classes
    · simp [p, c]
    · simp [p, c]

theorem positionsOf_eq_class (classes : List ReadClass) (c : ReadClass) :
    positionsOf (· = c) classes = (List.range classes.length).filter fun i => classes[i]? = some c := by
  rw [positionsOf_eq_filter]
  refine List.filter_congr fun i _ => ?_
  cases classes[i]? with
  | none => rfl
  | some d => simp

theorem reportedPositions_of_not_masked {e : Entry} (h : ∀ masks, e.kind ≠ .maskedWrite masks) (classes : List ReadClass) :
    e.reportedPositions classes = positionsOf (· = .poisoned) classes := by
  unfold Entry.reportedPositions
  split
  · next masks kind => exact absurd kind (h masks)
  · rfl

theorem afterRead_of_read {e : Entry} (h : e.kind = .read) (on : Bool) (blocks : List ReadBlock) :
    e.afterRead on blocks = { e with
      classes := blocks.map (·.cls)
      data := blocks.map (·.data)
      writeBack := if on then positionsOf (· = .corrected) (blocks.map (·.cls)) else []
      status := some (rangeStatus (blocks.map (·.cls))) } := by
  unfold Entry.afterRead
  simp only [h]

theorem afterRead_of_scrub {e : Entry} (h : e.kind = .scrub) (on : Bool) (blocks : List ReadBlock) :
    e.afterRead on blocks = { e with
      classes := blocks.map (·.cls)
      data := blocks.map (·.data)
      writeBack := positionsOf (· = .corrected) (blocks.map (·.cls))
      status := some (rangeStatus (blocks.map (·.cls))) } := by
  unfold Entry.afterRead
  simp only [h]

/-- Settles O28: READ and SCRUB keep the same but for the write-back set. -/
theorem readsClassifyTheirBlocks : Obligations.ReadsClassifyTheirBlocks := by
  refine ⟨fun e on blocks kind => ?_, fun e => ⟨fun p tag n o owner kind => ?_, fun masks kind => ?_,
    fun op offset a b kind => ?_, fun kind => ?_⟩⟩
  · have kept : ∃ writeBack, e.afterRead on blocks = { e with
        classes := blocks.map (·.cls)
        data := blocks.map (·.data)
        writeBack := writeBack
        status := some (rangeStatus (blocks.map (·.cls))) } ∧
        writeBack = if e.kind = .read ∧ on = false then [] else positionsOf (· = .corrected) (blocks.map (·.cls)) := by
      rcases kind with h | h
      · refine ⟨_, afterRead_of_read h on blocks, ?_⟩
        cases on <;> simp [h]
      · exact ⟨_, afterRead_of_scrub h on blocks, by simp [h]⟩
    obtain ⟨writeBack, after, set⟩ := kept
    have plain : ∀ masks, e.kind ≠ .maskedWrite masks := fun masks h => by
      rcases kind with k | k
      · rw [h] at k
        cases k
      · rw [h] at k
        cases k
    simp only [after, Option.some.injEq, rangeStatus_poisoned_iff, rangeStatus_corrected_iff, rangeStatus_ok_iff,
      reportedPositions_of_not_masked plain, positionsOf_eq_class, iff_self, true_and, and_true]
    rw [set, positionsOf_eq_class]
  · unfold Entry.source
    rw [kind, owner]
    cases p <;> rfl
  · unfold Entry.source
    rw [kind]
  · unfold Entry.source
    rw [kind]
  · unfold Entry.source
    rw [kind]

/-! ### What a MASKED-WRITE builds (R75 to R79) -/

section

variable {masks : List (BitVec 32)} {blocks : List ReadBlock}

theorem fullMask_iff (m : BitVec 32) : fullMask m = true ↔ m = BitVec.allOnes 32 := decide_eq_true_iff

theorem getElem?_classes (blocks : List ReadBlock) (i : Nat) (c : ReadClass) :
    (blocks.map (·.cls))[i]? = some c ↔ ∃ b : ReadBlock, blocks[i]? = some b ∧ b.cls = c := by
  rw [List.getElem?_map, Option.map_eq_some_iff]

theorem mem_skippedSet (i : Nat) : i ∈ skippedSet masks (blocks.map (·.cls)) ↔
    (∃ m, masks[i]? = some m ∧ m ≠ 0#32 ∧ m ≠ BitVec.allOnes 32) ∧ ∃ b : ReadBlock, blocks[i]? = some b ∧ b.cls = .poisoned := by
  unfold skippedSet
  simp only [mem_positionsOf, List.getElem?_zip_eq_some, getElem?_classes, Bool.and_eq_true, partialMask_iff,
    decide_eq_true_eq, Prod.exists]
  constructor
  · rintro ⟨m, c, ⟨hm, b, hb, rfl⟩, partly, poisoned⟩
    exact ⟨⟨m, hm, partly⟩, b, hb, poisoned⟩
  · rintro ⟨⟨m, hm, partly⟩, b, hb, poisoned⟩
    exact ⟨m, b.cls, ⟨hm, b, hb, rfl⟩, partly, poisoned⟩

theorem mem_maskedWritten (same : masks.length = blocks.length) (i : Nat) :
    i ∈ positionsOf (fun x => maskedWritten x.1 x.2) (masks.zip (blocks.map (·.cls))) ↔
      masks[i]? = some (BitVec.allOnes 32) ∨
        ((∃ m, masks[i]? = some m ∧ m ≠ 0#32 ∧ m ≠ BitVec.allOnes 32) ∧ ¬ ∃ b : ReadBlock, blocks[i]? = some b ∧ b.cls = .poisoned) := by
  simp only [mem_positionsOf, List.getElem?_zip_eq_some, getElem?_classes, maskedWritten, Bool.or_eq_true, Bool.and_eq_true,
    fullMask_iff, partialMask_iff, decide_eq_true_eq, Prod.exists]
  constructor
  · rintro ⟨m, c, ⟨hm, b, hb, rfl⟩, rfl | ⟨partly, read⟩⟩
    · exact .inl hm
    · refine .inr ⟨⟨m, hm, partly⟩, ?_⟩
      rintro ⟨b', hb', poisoned⟩
      rw [hb] at hb'
      cases hb'
      exact read poisoned
  · intro h
    have read : ∀ {m}, masks[i]? = some m → ∃ b, blocks[i]? = some b := fun hm => by
      obtain ⟨inside, -⟩ := List.getElem?_eq_some_iff.1 hm
      exact ⟨_, List.getElem?_eq_getElem (same ▸ inside)⟩
    rcases h with hm | ⟨⟨m, hm, partly⟩, whole⟩
    · obtain ⟨b, hb⟩ := read hm
      exact ⟨_, b.cls, ⟨hm, b, hb, rfl⟩, .inl rfl⟩
    · obtain ⟨b, hb⟩ := read hm
      exact ⟨m, b.cls, ⟨hm, b, hb, rfl⟩, .inr ⟨partly, fun poisoned => whole ⟨b, hb, poisoned⟩⟩⟩

theorem any_corrected_iff :
    ((masks.zip (blocks.map (·.cls))).any fun x => partialMask x.1 && decide (x.2 = .corrected)) = true ↔
      ∃ i : Nat, (∃ m, masks[i]? = some m ∧ m ≠ 0#32 ∧ m ≠ BitVec.allOnes 32) ∧ ∃ b : ReadBlock, blocks[i]? = some b ∧ b.cls = .corrected := by
  rw [List.any_eq_true]
  constructor
  · rintro ⟨x, hx, h⟩
    obtain ⟨i, hi⟩ := List.mem_iff_getElem?.1 hx
    rw [List.getElem?_zip_eq_some, getElem?_classes] at hi
    obtain ⟨hm, b, hb, cls⟩ := hi
    rw [Bool.and_eq_true, partialMask_iff, decide_eq_true_eq] at h
    exact ⟨i, ⟨x.1, hm, h.1⟩, b, hb, cls.trans h.2⟩
  · rintro ⟨i, ⟨m, hm, partly⟩, b, hb, corrected⟩
    refine ⟨(m, b.cls), List.mem_iff_getElem?.2 ⟨i, List.getElem?_zip_eq_some.2 ⟨hm, (getElem?_classes ..).2 ⟨b, hb, rfl⟩⟩⟩, ?_⟩
    rw [Bool.and_eq_true, partialMask_iff, decide_eq_true_eq]
    exact ⟨partly, corrected⟩

theorem skippedSet_isEmpty_iff : (!(skippedSet masks (blocks.map (·.cls))).isEmpty) = true ↔
    ∃ i : Nat, (∃ m, masks[i]? = some m ∧ m ≠ 0#32 ∧ m ≠ BitVec.allOnes 32) ∧ ∃ b : ReadBlock, blocks[i]? = some b ∧ b.cls = .poisoned := by
  rw [Bool.not_eq_true', ← Bool.not_eq_true, List.isEmpty_iff, ← ne_eq]
  exact (Iff.intro (List.exists_mem_of_ne_nil _) fun ⟨_, h⟩ => List.ne_nil_of_mem h).trans (exists_congr fun i => mem_skippedSet i)

end

theorem afterRead_of_masked {e : Entry} {masks : List (BitVec 32)} (h : e.kind = .maskedWrite masks) (on : Bool)
    (blocks : List ReadBlock) : e.afterRead on blocks = { e with
      classes := blocks.map (·.cls)
      data := (List.range e.count).map fun i =>
        builtBlock (masks.getD i 0) (e.data.getD i []) (blocks.getD i ⟨.poisoned, []⟩)
      writeBack := positionsOf (fun x => maskedWritten x.1 x.2) (masks.zip (blocks.map (·.cls)))
      status := some (maskedStatus masks (blocks.map (·.cls))) } := by
  unfold Entry.afterRead
  simp only [h]

/-- A written block: the enabled lanes from the request, the others as read. -/
theorem getD_builtBlock {m : BitVec 32} {b : ReadBlock}
    (written : m = BitVec.allOnes 32 ∨ (partialMask m = true ∧ b.cls ≠ .poisoned))
    (request : List Byte) {j : Nat} (hj : j < 32) : (builtBlock m request b).getD j 0#8 =
      if m.getLsbD j then request.getD j 0#8 else b.data.getD j 0#8 := by
  rcases written with rfl | ⟨partly, read⟩
  · have whole : partialMask (BitVec.allOnes 32) = false := by decide
    unfold builtBlock
    rw [whole, BitVec.getLsbD_allOnes, decide_eq_true hj]
    rfl
  · unfold builtBlock mergeBlock
    rw [partly, decide_eq_true read]
    simp [hj]

/-- Settles O29: position by position, from the masks and the classes. -/
theorem maskedWriteMergesItsBlocks : Obligations.MaskedWriteMergesItsBlocks := by
  intro e on blocks masks kind same count
  have skipped : (e.afterRead on blocks).skipped = skippedSet masks (blocks.map (·.cls)) := by
    rw [afterRead_of_masked kind]
    unfold Entry.skipped
    simp only [kind]
  have reported : e.reportedPositions (blocks.map (·.cls)) = skippedSet masks (blocks.map (·.cls)) := by
    unfold Entry.reportedPositions
    simp only [kind]
  simp only [skipped]
  simp only [afterRead_of_masked kind, reported, mem_maskedWritten same, mem_skippedSet, Option.some.injEq,
    implies_true, true_and]
  refine ⟨fun i m b written hm hb => ?_, ?_, ?_, ?_⟩
  · have inside : i < e.count := by
      obtain ⟨inside, -⟩ := List.getElem?_eq_some_iff.1 hb
      omega
    have lane : ∀ j, j < 32 → ((((List.range e.count).map fun i =>
        builtBlock (masks.getD i 0) (e.data.getD i []) (blocks.getD i ⟨.poisoned, []⟩)).getD i []).getD j 0#8) =
        if m.getLsbD j then (e.data.getD i []).getD j 0#8 else b.data.getD j 0#8 := fun j hj => by
      have built : ((List.range e.count).map fun i =>
          builtBlock (masks.getD i 0) (e.data.getD i []) (blocks.getD i ⟨.poisoned, []⟩)).getD i [] =
          builtBlock m (e.data.getD i []) b := by
        simp [List.getD_eq_getElem?_getD, inside, hm, hb]
      rw [built]
      refine getD_builtBlock ?_ _ hj
      rcases written with full | ⟨⟨m', hm', partly⟩, whole⟩
      · rw [hm] at full
        exact .inl (Option.some.inj full)
      · rw [hm] at hm'
        cases hm'
        exact .inr ⟨(partialMask_iff m).2 partly, fun poisoned => whole ⟨b, hb, poisoned⟩⟩
    exact ⟨fun j hj on => by rw [lane j hj, if_pos on], fun j hj off => by rw [lane j hj, off]; rfl⟩
  all_goals
    rw [← skippedSet_isEmpty_iff]
    unfold maskedStatus
  · split
    · next h => simp [h]
    · next h => split <;> simp [h]
  · rw [← any_corrected_iff]
    split
    · next h => simp [h]
    · next h => split <;> simp_all
  · rw [← any_corrected_iff]
    split
    · next h => simp [h]
    · next h => split <;> simp_all

/-! ### The end of a write (R12, R16, R22, R122) -/

theorem byteAt_writeBlocks (s : State) (writes : List (Nat × List Byte)) (a : Nat) :
    (s.writeBlocks writes).byteAt a = match writes.reverse.find? fun w => w.1 = a / 32 with
      | some w => w.2.getD (a % 32) 0#8
      | none => s.byteAt a := by
  unfold State.writeBlocks
  induction writes generalizing s with
  | nil => rfl
  | cons w t ih =>
    rw [List.foldl_cons, ih, List.reverse_cons, List.find?_append]
    cases t.reverse.find? fun w => decide (w.1 = a / 32) with
    | some _ => rfl
    | none =>
      rw [byteAt_writeBlock]
      by_cases h : w.1 = a / 32
      · simp [h]
      · simp [h, Ne.symm h]

theorem condition_writeBlocks (s : State) (writes : List (Nat × List Byte)) (b : Nat) :
    (s.writeBlocks writes).condition b = if b ∈ writes.map (fun w => w.1) then .good else s.condition b := by
  unfold State.writeBlocks
  induction writes generalizing s with
  | nil => rfl
  | cons w t ih =>
    rw [List.foldl_cons, ih, condition_writeBlock, List.map_cons]
    by_cases h : b = w.1
    · simp [h]
    · rw [if_neg h]
      exact if_congr (by simp [h]) rfl rfl

theorem writeBlocks_eq (s : State) (writes : List (Nat × List Byte)) : ∃ contents conditions,
    s.writeBlocks writes = { s with contents := contents, conditions := conditions } := by
  unfold State.writeBlocks
  induction writes generalizing s with
  | nil => exact ⟨s.contents, s.conditions, rfl⟩
  | cons w t ih =>
    obtain ⟨contents, conditions, h⟩ := ih (s.writeBlock w.1 w.2)
    refine ⟨contents, conditions, ?_⟩
    rw [List.foldl_cons, h]
    simp only [State.writeBlock]

theorem afterWrite_eq (e : Entry) : e.afterWrite =
    if e.state = .inUpdate then { e with writeBack := [] }
    else if e.kind = .fill then e
    else { e with classes := List.replicate e.count .ok, status := some .ok } := by
  unfold Entry.afterWrite
  split
  · rfl
  · split
    · next h => rw [if_pos h]
    · next h => rw [if_neg h]

/-- Settles O31: the state before the entry becomes DONE, and what its record then is. -/
theorem writeTransferEndStoresTheBlocks : Obligations.WriteTransferEndStoresTheBlocks := by
  intro s f flight dir
  have ends : exec .writeTransferEnd s = .next (s.writeEnds f).finish := by
    simp only [exec, execWriteTransferEnd, flight]
    rw [if_pos dir]
  let w : State := ((s.at f.due).writeBlocks f.writes).markRewritten (f.writes.map (·.1))
  let u : State := (w.freePath .write).setBank f.bank { (w.freePath .write).bank f.bank with lastWriteEnd := some w.now }
  have stored : u = { s with
      now := max s.now f.due
      contents := u.contents
      conditions := u.conditions
      errors := { s.errors with records := s.errors.records.map fun r =>
        if r.block ∈ f.writes.map (fun w => w.1) then { r with rewritten := true } else r }
      path := ⟨none, some .write, some (max s.now f.due)⟩
      banks := s.banks.set f.bank { s.bank f.bank with lastWriteEnd := some (max s.now f.due) } } := by
    obtain ⟨contents, conditions, h⟩ := writeBlocks_eq (s.at f.due) f.writes
    simp only [u, w, h]
    rfl
  have table : u.table = s.table := by rw [stored]
  refine ⟨u, fun a => ?_, fun b => ?_, stored, fun slot => ?_, fun k e slot he => ?_⟩
  · exact byteAt_writeBlocks (s.at f.due) f.writes a
  · exact condition_writeBlocks (s.at f.due) f.writes b
  · rw [ends]
    unfold State.writeEnds
    simp only [slot]
    rfl
  · have same : u.entry k = some e := by
      unfold State.entry
      rw [table]
      exact he
    rw [ends]
    unfold State.writeEnds
    simp only [slot]
    rw [← afterWrite_eq]
    have done : (match u.entry k with | none => u | some e => u.entryDone k e.afterWrite) = u.entryDone k e.afterWrite := by
      rw [same]
    exact congrArg (fun v : State => Host.Outcome.next v.finish) done

end Sys2Proof.Machine.Transfer
end

section
/-! Reports, calibration, scrub steps and the hold rules: what each says of the state it meets. -/

namespace Sys2Proof.Machine.Upkeep

open Sys2Proof.Machine.Steps Sys2Proof.Machine.Schedule

variable {s : State}

/-! ### Reports (R119 to R121) -/

theorem naming_eq_none {t : ErrorTable} {block : Nat} (h : ∀ r ∈ t.records, r.block ≠ block) : t.naming block = none := by
  unfold ErrorTable.naming
  rw [List.find?_eq_none]
  exact fun r hr => by simpa using h r hr

theorem takeReport_of_named {source : Source} {block : Nat} {r : ErrorRecord} (h : s.errors.naming block = some r) :
    s.takeReport source block =
      let u : State := { s with errors := { s.errors with
        records := s.errors.records.map fun x => if x.block = block then x.hit else x } }
      if r.rewritten then u.raiseUncorrectable block source .repeated r.number else u := by
  unfold State.takeReport
  rw [h]

theorem takeReport_of_new {source : Source} {block : Nat} (h : s.errors.naming block = none)
    (room : s.errors.records.length < 16) : s.takeReport source block =
      State.raiseUncorrectable { s with errors := s.errors.create block source s.power.timeBase } block source .new
        s.errors.nextNumber := by
  unfold State.takeReport
  rw [h]
  exact if_pos room

theorem takeReport_of_full {source : Source} {block : Nat} (h : s.errors.naming block = none)
    (full : 16 ≤ s.errors.records.length) : s.takeReport source block =
      State.raiseUncorrectable { s with errors := { s.errors with overflow := min 65535 (s.errors.overflow + 1) } } block
        source .notRecorded 0 := by
  unfold State.takeReport
  rw [h]
  exact if_neg (Nat.not_lt.2 full)

/-- Settles O33: the three outcomes of a report; the next number is the first free one. -/
theorem reportsAreRecorded : Obligations.ReportsAreRecorded := by
  refine fun s source block => ⟨fun r named => ?_, fun new room => ?_, fun new full => ?_⟩
  · rw [takeReport_of_named named]
    unfold State.raiseUncorrectable
    simp only [List.length_map]
    rfl
  · have few : (s.errors.create block source s.power.timeBase).records.length ≤ 16 := by
      simp only [ErrorTable.create, List.length_append, List.length_cons, List.length_nil]
      omega
    obtain ⟨j, found, passed, free⟩ := freeNumberFrom_free few (s.errors.nextNumber + 1)
    have next : (s.errors.create block source s.power.timeBase).nextNumber = (s.errors.nextNumber + 1 + j) % 65536 := found
    refine ⟨{ s with errors := s.errors.create block source s.power.timeBase }, ?_, rfl, fun r hr => ?_, j, next, passed⟩
    · rw [takeReport_of_new (naming_eq_none new) room]
      unfold State.raiseUncorrectable
      simp only [ErrorTable.create, List.length_append, List.length_cons, List.length_nil]
      rfl
    · rw [next]
      exact free r hr
  · rw [takeReport_of_full (naming_eq_none new) full]
    rfl

/-! ### Calibration (R97 to R103) -/

theorem calTrigger_of_discarded {k : CalKind}
    (h : s.power.state = .entering ∨ s.power.state = .retain ∨ s.power.state = .held) : s.calTrigger k = s := by
  unfold State.calTrigger
  exact if_pos h

theorem calTrigger_of_taken {k : CalKind}
    (h : ¬ (s.power.state = .entering ∨ s.power.state = .retain ∨ s.power.state = .held)) : s.calTrigger k =
      if s.maint.cal = .idle then State.endNap { s with maint := s.maint.takeTrigger k }
      else { s with maint := s.maint.takeTrigger k } := by
  unfold State.calTrigger
  rw [if_neg h]
  simp only [State.calIdle, decide_eq_true_eq]

/-- Settles O34: by the record's state, and each row by its equation. -/
theorem calibrationFollowsItsTriggers : Obligations.CalibrationFollowsItsTriggers := by
  refine ⟨fun s k => ⟨calTrigger_of_discarded, fun entering retain held => ?_⟩, fun s => ⟨fun due h => ?_,
    fun k pending closed => ?_, fun b row => ?_, fun due h => ?_⟩⟩
  · rw [calTrigger_of_taken (by rintro (h | h | h) <;> contradiction)]
    refine ⟨fun idle => ?_, fun j pending => ?_, fun j running => ?_⟩
    · rw [if_pos idle, endNap_eq]
      simp only [Maintenance.takeTrigger, idle]
    · rw [if_neg (by rw [pending]; exact nofun)]
      cases k
      · simp only [Maintenance.takeTrigger, pending]
        rw [if_neg (by decide), ← pending]
      · simp only [Maintenance.takeTrigger, pending]
        rfl
    · rw [if_neg (by rw [running]; exact nofun)]
      cases k
      · cases j
        · simp only [Maintenance.takeTrigger, running]
          by_cases first : s.maint.followOn = none
          · simp [first, ← running]
          · simp [first, ← running]
        · simp only [Maintenance.takeTrigger, running]
          simp [← running]
      · simp only [Maintenance.takeTrigger, running]
        simp [← running]
  · simp only [exec, execCalibrationTimerExpiry, h]
    rfl
  · simp only [exec, execCalibrationRunBegin, pending]
    rw [if_pos ((allClosed_iff s).2 closed)]
    cases k <;> rfl
  · have open' : ¬ s.allClosed = true := fun all => row ((allClosed_iff s).1 all b)
    simp only [exec, execCalibrationRunBegin]
    split
    · rw [if_neg open']
    · rfl
  · simp only [exec, execCalibrationRunComplete, h]
    rfl

/-! ### Scrub steps (R106 to R109) -/

theorem stepInterval_mul (hours : Nat) : stepInterval hours * 4194304 = hours * 3600000 * 512000000 := by
  have group : ms 3600000 / 4194304 * 4194304 = 3600000 * 512000000 := by decide
  unfold stepInterval
  rw [Nat.mul_assoc, group, Nat.mul_assoc]

/-- Settles O35: a step is taken into the lowest FREE maintenance slot, or pends. -/
theorem stepTimerExpiryTakesAStep : Obligations.StepTimerExpiryTakesAStep := by
  refine ⟨stepInterval_mul, by decide, fun s => ⟨fun due h => ⟨?_, fun barred => ?_⟩, fun waiting => ?_, fun h => ?_⟩⟩
  · rintro ⟨noScrub, noFill, room⟩
    obtain ⟨k, slot, free⟩ := stepSlot_isSome noScrub noFill room
    obtain ⟨low, high, new, lowest⟩ := freeSlot_eq_some free
    obtain ⟨e, he, holds, state, taken⟩ := takeStep_eq { s.at due with
      scrub := { s.scrub with stepDue := some (max s.now due + stepInterval s.store.scrubPeriod) } } k noFill
    refine ⟨_, ⟨k, e, low, high, new, lowest, he, holds, state, rfl⟩, ?_⟩
    have same : State.stepSlot { s.at due with
        scrub := { s.scrub with stepDue := some (max s.now due + stepInterval s.store.scrubPeriod) } } = some k := slot
    simp only [exec, execStepTimerExpiry, h]
    have falls : State.stepFallsDue { s.at due with
        scrub := { s.scrub with stepDue := some (max s.now due + stepInterval s.store.scrubPeriod) } } =
        State.takeStep { s.at due with
          scrub := { s.scrub with stepDue := some (max s.now due + stepInterval s.store.scrubPeriod) } } k := by
      unfold State.stepFallsDue
      rw [same]
    exact congrArg (fun u : State => Host.Outcome.next u.settle) (falls.trans taken)
  · have none : State.stepSlot { s.at due with
        scrub := { s.scrub with stepDue := some (max s.now due + stepInterval s.store.scrubPeriod) } } = none :=
      stepSlot_eq_none barred
    have falls : State.stepFallsDue { s.at due with
        scrub := { s.scrub with stepDue := some (max s.now due + stepInterval s.store.scrubPeriod) } } =
        { s.at due with scrub := { s.scrub with
          stepDue := some (max s.now due + stepInterval s.store.scrubPeriod), pendingStep := true } } := by
      unfold State.stepFallsDue
      rw [none]
    simp only [exec, execStepTimerExpiry, h]
    exact congrArg (fun u : State => Host.Outcome.next u.settle) falls
  · rintro ⟨noScrub, noFill, room⟩
    obtain ⟨k, slot, free⟩ := stepSlot_isSome noScrub noFill room
    obtain ⟨low, high, new, lowest⟩ := freeSlot_eq_some free
    obtain ⟨e, he, holds, state, taken⟩ := takeStep_eq s k noFill
    refine ⟨_, ⟨k, e, low, high, new, lowest, he, holds, state, rfl⟩, ?_⟩
    unfold State.takePendingStep
    rw [if_pos waiting, slot]
    simp only [taken]
  · exact takePendingStep_eq_self h

/-! ### The hold rules (R32 to R34) -/

/-- Settles O37: each reason as its rule. -/
theorem holdReasonsAreTheRules : Obligations.HoldReasonsAreTheRules := by
  refine fun table fill e => ⟨?_, ?_, ?_, fun x => older_iff x e⟩
  · simp only [holdsOf, hazardHolds, List.any_eq_true, Bool.and_eq_true, Entry.overlaps, rangesOverlap_iff, Entry.readClass,
      Bool.not_eq_true', ← Bool.not_eq_true, decide_eq_true_eq, and_assoc]
  · simp only [holdsOf, barrierHolds, List.any_eq_true, Bool.and_eq_true, Bool.or_eq_true, sameSession_iff, Entry.isBarrier,
      decide_eq_true_eq, and_assoc]
  · cases fill with
    | none => exact ⟨nofun, nofun⟩
    | some f =>
      simp only [holdsOf, fillHolds, Bool.and_eq_true, decide_eq_true_eq, rangesOverlap_iff, Option.some.injEq,
        exists_eq_left']
      refine and_congr_right fun _ => exists_congr fun b => ?_
      omega

/-! ### Entries that become DONE (R37 to R39, R43, R113 to R116) -/

theorem entryDone_live {k : Nat} {e : Entry} {p : Port} {tag : Byte} {n : Nat} (own : e.owner = .port p tag n false) :
    s.entryDone k e = State.setPort { s with table := Sparse.insert s.table k { e with state := .done } } p
      { s.port p with replies := (s.port p).replies ++ [k] } := by
  unfold State.entryDone
  simp only [own]
  cases p <;> rfl

theorem freeSlotOf_port {k : Nat} {x : Entry} {p : Port} (hx : s.entry k = some x) (own : x.owner.port? = some p) :
    s.freeSlotOf k = (s.clearSlot k).returnCredit p .memory := by
  unfold State.freeSlotOf
  simp only [hx, own]

theorem entryDone_orphan {k : Nat} {e x : Entry} {p : Port} {tag : Byte} {n : Nat} (own : e.owner = .port p tag n true)
    (hx : s.entry k = some x) (same : x.owner = e.owner) :
    s.entryDone k e = ((s.clearSlot k).returnCredit p .memory).reevaluate := by
  unfold State.entryDone
  simp only [own]
  rw [freeSlotOf_port hx (by rw [same, own]; rfl)]
  rfl

theorem entryDone_scrub {k : Nat} {e : Entry} (own : e.owner = .maintenance) (kind : e.kind = .scrub) :
    s.entryDone k e = (s.clearSlot k).reevaluate.takePendingStep := by
  unfold State.entryDone
  simp only [own, kind]
  rfl

theorem entryDone_fill {k : Nat} {e : Entry} (own : e.owner = .maintenance) (kind : e.kind = .fill) :
    s.entryDone k e = (s.clearSlot k).fillEntryFreed := by
  unfold State.entryDone
  simp only [own, kind]
  rfl

/-- A fill creates an entry in the lowest FREE maintenance slot. -/
theorem createFillEntry_eq {f : Fill} {j : Nat} (hf : s.fill = some f) (running : f.aborting = false)
    (below : f.cursor < f.first + f.count) (few : f.inFlight < 3) (free : s.freeSlot 96 4 = some j) : ∃ x : Entry,
    x = ⟨.maintenance, .fill, f.cursor, 8, fillData f.pattern, f.age, x.state, x.holds, [], [], none, none⟩ ∧
      x.holds = holdsOf s.table s.fill x ∧ (x.state = if x.holds.isEmpty then .queued else .held) ∧
      s.createFillEntry = { s with
        table := Sparse.insert s.table j x
        fill := some { f with cursor := f.cursor + 8, inFlight := f.inFlight + 1 }
        power := if s.power.state = .nap then { s.power with state := .active, exitDue := some (s.now + ns 20) }
          else s.power } := by
  obtain ⟨a, b, c⟩ := newEntry_eq s .maintenance .fill f.cursor 8 f.age (fillData f.pattern) (by simp)
  refine ⟨_, a, b, c, ?_⟩
  have slot : s.maintenanceSlot .fill = some j := free
  unfold State.createFillEntry
  simp only [hf]
  rw [if_pos (by simp [running, below, few])]
  simp only [slot]
  unfold State.maintenanceAdmission
  rw [place_newEntry _ _ _ _ _ _ _ _ _ (by simp), endNap_eq]
  rfl

theorem createFillEntry_of_three (three : ∀ f, s.fill = some f → f.inFlight = 3) : s.createFillEntry = s := by
  unfold State.createFillEntry
  split
  · rfl
  · next f hf => rw [if_neg (by simp [three f hf])]

/-- With two in flight at most one more is created. -/
theorem createFillEntries_of_two {f : Fill} (hf : s.fill = some f) (two : f.inFlight = 2) :
    s.createFillEntries = s.createFillEntry := by
  have one : s.createFillEntry = s ∨ ∃ g, s.createFillEntry.fill = some g ∧ g.inFlight = 3 := by
    unfold State.createFillEntry
    simp only [hf]
    split
    · split
      · exact .inl rfl
      · exact .inr ⟨_, rfl, by rw [two]⟩
    · exact .inl rfl
  have again : s.createFillEntry.createFillEntry = s.createFillEntry := by
    rcases one with h | ⟨g, hg, three⟩
    · rw [h, h]
    · refine createFillEntry_of_three fun f' hf' => ?_
      rw [hg] at hf'
      cases hf'
      exact three
  unfold State.createFillEntries
  rw [again, again]

/-- An entry of the fill freed, others left. -/
theorem fillEntryFreed_goes_on {f g : Fill} {u : State} (hf : s.fill = some f)
    (created : State.createFillEntries { s with fill := some { f with inFlight := f.inFlight - 1 } } = u)
    (hg : u.fill = some g) (left : g.inFlight ≠ 0) : s.fillEntryFreed = u.reevaluate := by
  unfold State.fillEntryFreed
  simp only [hf, created, hg]
  rw [if_pos left]

/-- The last entry of the fill freed. -/
theorem fillEntryFreed_last {f : Fill} (hf : s.fill = some f) (last : f.inFlight = 1)
    (stops : f.aborting = true ∨ f.first + f.count ≤ f.cursor) : s.fillEntryFreed =
      if f.aborting then
        match f.abortReply with
        | none => (State.reevaluate { s with fill := none }).takePendingStep
        | some (p, tag) => ((State.reevaluate { s with fill := none }).takePendingStep).replyAndLetGo p
            (mgmtReplyOk tag 24 (BitVec.ofNat 32 f.cursor) 0 [])
      else if f.cursor = f.first + f.count then
        ((State.reevaluate { s with fill := none }).takePendingStep).raiseNotice f.port (.fillDone f.first f.count)
      else State.reevaluate { s with fill := some { f with inFlight := 0 } } := by
  have created : State.createFillEntries { s with fill := some { f with inFlight := 1 - 1 } } =
      { s with fill := some { f with inFlight := 1 - 1 } } :=
    createFillEntries_eq_self fun g hg => by
      cases hg
      rcases stops with h | h
      · exact .inl h
      · exact .inr (.inl h)
  unfold State.fillEntryFreed
  simp only [hf, last, created]
  rfl

/-! ### A BARRIER admitted (R31, R33, R36, R38) -/

theorem replies_removeVote (s : State) (p q : Port) : ((s.removeVote p).port q).replies = (s.port q).replies := by
  unfold State.removeVote State.raiseNotice
  split
  · split
    · cases p <;> cases q <;> rfl
    · cases p <;> cases q <;> rfl
  · rfl

/-- To a new BARRIER only older entries of its port and session apply, and every entry is older. -/
theorem holdsOf_newBarrier (sound : s.agesSound) {e : Entry} (kind : e.kind = .barrier) (first : e.first = 0)
    (count : e.count = 0) (age : e.age = s.ageCounter) : (holdsOf s.table s.fill e).isEmpty = false ↔
      ∃ x ∈ s.table, sameSession x.2.owner e.owner = true := by
  obtain ⟨ages, -, -⟩ := sound
  have hazard : hazardHolds s.table e = false := by
    unfold hazardHolds
    rw [List.any_eq_false]
    intro x _
    simp [Entry.overlaps, first, count, rangesOverlap]
  have fill : fillHolds s.fill e = false := by
    unfold fillHolds
    cases s.fill with
    | none => rfl
    | some f =>
      simp [first, count, rangesOverlap]
  have barrier : barrierHolds s.table e = true ↔ ∃ x ∈ s.table, sameSession x.2.owner e.owner = true := by
    unfold barrierHolds
    rw [List.any_eq_true]
    refine exists_congr fun x => and_congr_right fun hx => ?_
    have older : x.2.older e = true := (older_iff _ _).2 (.inl (age ▸ ages x hx))
    simp [older, Entry.isBarrier, kind]
  rw [← barrier]
  simp [Holds.isEmpty, holdsOf, hazard, fill]

/-- The record of a new BARRIER: HELD behind an entry of its port and session, DONE without one. -/
theorem newBarrier_eq (sound : s.agesSound) (p : Port) (tag : Byte) (n : Nat) : ∃ e : Entry,
    s.newEntry (.port p tag n false) .barrier 0 0 s.ageCounter [] = e ∧ e.kind = .barrier ∧ e.owner = .port p tag n false ∧
      e.age = s.ageCounter ∧
      ((∃ x ∈ s.table, ∃ u o, x.2.owner = .port p u n o) → e.state = .held) ∧
      ((¬ ∃ x ∈ s.table, ∃ u o, x.2.owner = .port p u n o) → e.state = .done) := by
  have behind : ∀ x : Owner, sameSession x (.port p tag n false) = true ↔ ∃ u o, x = .port p u n o := fun x => by
    rw [sameSession_iff]
    constructor
    · rintro ⟨q, t, u, m, o, r, rfl, h⟩
      cases h
      exact ⟨t, o, rfl⟩
    · rintro ⟨u, o, rfl⟩
      exact ⟨p, u, tag, n, o, false, rfl, rfl⟩
  unfold State.newEntry Entry.reheld
  simp only [Entry.isBarrier]
  have holds := holdsOf_newBarrier sound (e := ⟨.port p tag n false, .barrier, 0, 0, [], s.ageCounter, .held, Holds.empty,
    [], [], none, none⟩) rfl rfl rfl rfl
  simp only [behind] at holds
  generalize holdsOf s.table s.fill _ = h at holds ⊢
  cases e : h.isEmpty
  · exact ⟨_, rfl, rfl, rfl, rfl, fun _ => rfl, fun none => absurd (holds.1 e) none⟩
  · refine ⟨_, rfl, rfl, rfl, rfl, fun some => ?_, fun _ => rfl⟩
    rw [holds.2 some] at e
    cases e

theorem entry_setEntry_self (s : State) (k : Nat) (e : Entry) : (s.setEntry k e).entry k = some e :=
  Sparse.find?_insert_self ..

theorem entry_setEntry_of_ne (s : State) {k j : Nat} (e : Entry) (h : j ≠ k) : (s.setEntry k e).entry j = s.entry j :=
  Sparse.find?_insert_of_ne _ _ _ _ h

/-- A new entry of a port placed: it joins the reply list if it is a BARRIER already DONE. -/
theorem place_port (s : State) (k : Nat) {e : Entry} {p : Port} {tag : Byte} {n : Nat} (own : e.owner = .port p tag n false) :
    s.place k e = (s.setEntry k e).setPort p { s.port p with
      replies := if e.state = .done then (s.port p).replies ++ [k] else (s.port p).replies } := by
  unfold State.place State.barrierDone
  simp only [own]
  split
  · cases p <;> rfl
  · cases p <;> rfl

theorem table_removeVote (s : State) (p : Port) : (s.removeVote p).table = s.table := by
  unfold State.removeVote
  split
  · rw [table_raiseNotice, table_setVote]
  · rfl

theorem ageCounter_removeVote (s : State) (p : Port) : (s.removeVote p).ageCounter = s.ageCounter := by
  unfold State.removeVote
  split
  · rw [ageCounter_raiseNotice, ageCounter_setVote]
  · rfl

theorem admission_barrier_eq (s : State) (p : Port) (tag : Byte) (k : Nat) : s.admission p tag .barrier k =
    ((s.takeAge.place k (s.newEntry (.port p tag (s.port p).session false) .barrier 0 0 s.ageCounter [])).endNap).removeVote p :=
  rfl

/-- Settles O32: by the owner and the kind; a fill's end by its record; and a BARRIER by what is in the table. -/
theorem doneEntriesJoinTheReplyList : Obligations.DoneEntriesJoinTheReplyList := by
  refine ⟨fun s k e => ⟨fun p tag n own => entryDone_live own, fun p tag n own x hx same => entryDone_orphan own hx same,
    entryDone_scrub, fun f own kind hf => ?_⟩, fun s p tag k new sound => ?_⟩
  · intro u done
    have freed : u.fill = some f := hf
    rw [entryDone_fill own kind]
    refine ⟨fun running below three room => ?_, fun stops more => ?_, fun running finished last => ?_, fun abort last =>
      ⟨fun none => ?_, fun p tag waits active space => ?_⟩⟩
    · obtain ⟨j, free⟩ := freeSlot_isSome room
      obtain ⟨low, high, new, lowest⟩ := freeSlot_eq_some free
      obtain ⟨x, hx, holds, state, created⟩ := createFillEntry_eq (s := { u with fill := some { f with inFlight := 2 } }) rfl
        running below (show 2 < 3 by decide) free
      refine ⟨j, x, low, high, new, lowest, hx, holds, state, ?_⟩
      have all : State.createFillEntries { u with fill := some { f with inFlight := f.inFlight - 1 } } = { u with
          table := Sparse.insert u.table j x
          fill := some { f with cursor := f.cursor + 8 }
          power := if s.power.state = .nap then { s.power with state := .active, exitDue := some (s.now + ns 20) }
            else s.power } := by
        rw [three, createFillEntries_of_two (s := { u with fill := some { f with inFlight := 2 } }) rfl rfl, created]
      exact fillEntryFreed_goes_on freed all rfl (by rw [three]; decide)
    · refine fillEntryFreed_goes_on freed (createFillEntries_eq_self fun g hg => ?_) rfl (by simp only; omega)
      cases hg
      exact stops.imp id .inl
    · refine (fillEntryFreed_last freed last (.inr (Nat.le_of_eq finished.symm))).trans ?_
      rw [if_neg (by rw [running]; exact Bool.false_ne_true), if_pos finished]
    · refine (fillEntryFreed_last freed last (.inl abort)).trans ?_
      rw [if_pos abort]
      simp only [none]
      rfl
    · refine (fillEntryFreed_last freed last (.inl abort)).trans ?_
      rw [if_pos abort]
      simp only [waits]
      refine (replyAndLetGo_eq active space _).trans ?_
      have now : done.now = s.now := by
        obtain ⟨_, _, _, _, _, _, _, _, h⟩ : TouchesEntries { u with fill := none } done :=
          (touchesTable_reevaluate _).entries.trans (touchesEntries_takePendingStep _)
        rw [h]
      rw [now]
      rfl
  · obtain ⟨e, he, kind, own, age, held, complete⟩ := newBarrier_eq sound p tag (s.port p).session
    rw [admission_barrier_eq, he]
    have placed := place_port s.takeAge k own
    generalize hv : (s.takeAge.place k e).endNap = v
    rw [placed, endNap_eq] at hv
    have table : (v.removeVote p).table = Sparse.insert s.table k e := by
      rw [table_removeVote, ← hv]
      cases p <;> rfl
    have counter : (v.removeVote p).ageCounter = s.ageCounter + 1 := by
      rw [ageCounter_removeVote, ← hv]
      cases p <;> rfl
    have replies : ((v.removeVote p).port p).replies =
        if e.state = .done then (s.port p).replies ++ [k] else (s.port p).replies := by
      rw [replies_removeVote, ← hv]
      cases p <;> rfl
    refine ⟨e, ?_, kind, own, age, counter, fun j ne => ?_, fun behind => ⟨held behind, ?_⟩, fun alone => ⟨complete alone, ?_⟩⟩
    · unfold State.entry
      rw [table, Sparse.find?_insert_self]
    · unfold State.entry
      rw [table, Sparse.find?_insert_of_ne _ _ _ _ ne]
    · rw [replies, held behind]
      rfl
    · rw [replies, complete alone]
      rfl

end Sys2Proof.Machine.Upkeep
end

section
/-! The frames of a processor: what decodes to what, and what each does to the link it comes on. -/

namespace Sys2Proof.Machine.Frames

open Sys2Proof.Machine.Steps Sys2Proof.Machine.Accounts Sys2Proof.Machine.Upkeep

/-! ### The byte layout (R134, Table 8-2) -/

theorem leBytes_succ (n v : Nat) : leBytes (n + 1) v = BitVec.ofNat 8 v :: leBytes n (v / 256) := by
  unfold leBytes
  rw [List.range_succ_eq_map, List.map_cons, List.map_map, Nat.pow_zero, Nat.div_one]
  refine congrArg _ (List.map_congr_left fun i _ => ?_)
  rw [Function.comp_apply, Nat.div_div_eq_div_mul, Nat.pow_succ, Nat.mul_comm]

theorem leNat_leBytes (n v : Nat) : leNat (leBytes n v) = v % 256 ^ n := by
  induction n generalizing v with
  | zero => rw [Nat.pow_zero, Nat.mod_one]; rfl
  | succ n ih =>
    rw [leBytes_succ, Atomic.leNat_cons, ih, BitVec.toNat_ofNat, pow_succ' 256 n, Nat.mod_mul]

theorem leNat_leBytes_of_lt {n v : Nat} (h : v < 256 ^ n) : leNat (leBytes n v) = v := by
  rw [leNat_leBytes, Nat.mod_eq_of_lt h]

/-- Bit 0 of the flags byte is the acknowledgement-valid flag. -/
theorem flagByte_bit (v : Bool) : (if v then 1#8 else 0#8)[0] = v := by cases v <;> decide

/-- What a good frame decodes to, by its kind and the length of its body. -/
def goodFrame (p : Port) (kind seq ackSeq : Byte) (v : Bool) (body : List Byte) : Instr :=
  if kind = 1#8 then .msg p seq ackSeq v body
  else if kind = 2#8 ∧ body.length = 0 then .ack p seq ackSeq v
  else if kind = 3#8 ∧ body.length = 0 then .replayReq p seq
  else if kind = 4#8 ∧ body.length = 1 then .train p (body.getD 0 0)
  else if kind = 6#8 ∧ body.length = 1 then .linkDownFrame p (body.getD 0 0)
  else .badFrame p

/-- A frame laid out by Table 8-2 with a body of at most 300 bytes passes every check. -/
theorem decodeFrame_frameBytes (p : Port) (kind seq ackSeq : Byte) (m g : Nat) (v : Bool) {body : List Byte}
    (fits : body.length ≤ 300) :
    decodeFrame p (frameBytes kind seq ackSeq m g v body) = goodFrame p kind seq ackSeq v body := by
  have hlen := Laws.FrameLength.frameBytes_length kind seq ackSeq m g v body
  have hcovered : (frameHeader kind seq ackSeq m g v body.length ++ body).length = body.length + 8 := by
    simp [frameHeader, Atomic.length_leBytes]; omega
  have htake : (frameBytes kind seq ackSeq m g v body).take ((frameBytes kind seq ackSeq m g v body).length - 4) =
      frameHeader kind seq ackSeq m g v body.length ++ body := by
    rw [hlen]
    exact List.take_left' (by omega)
  have hdrop : (frameBytes kind seq ackSeq m g v body).drop ((frameBytes kind seq ackSeq m g v body).length - 4) =
      leBytes 4 (crc32 (frameHeader kind seq ackSeq m g v body.length ++ body)).toNat := by
    rw [hlen]
    exact List.drop_left' (by omega)
  have hcrc := leNat_leBytes_of_lt (n := 4) (crc32 (frameHeader kind seq ackSeq m g v body.length ++ body)).isLt
  have hlength : leNat (leBytes 2 body.length) = body.length := leNat_leBytes_of_lt (by omega)
  have hbody : (frameHeader kind seq ackSeq m g v body.length ++ body).drop 8 = body :=
    List.drop_left' (by simp [frameHeader, Atomic.length_leBytes])
  have hfield : ((frameHeader kind seq ackSeq m g v body.length ++ body).drop 6).take 2 = leBytes 2 body.length := by
    exact List.take_left' (Atomic.length_leBytes 2 _)
  unfold decodeFrame
  simp only [htake, hdrop, hbody, hfield, hlength, hcrc]
  rw [if_neg (by omega)]
  unfold goodFrame
  simp [frameHeader, flagByte_bit]

/-- Settles O38: every field of each of the five frames is where the decoder looks for it. -/
theorem framesDecodeAsTheyAreEncoded : Obligations.FramesDecodeAsTheyAreEncoded := by
  intro i bytes wf encoded
  have sent : ∀ {p : Port} {kind seq ackSeq : Byte} {v : Bool} {body : List Byte}, body.length ≤ 300 →
      some (frameBytes kind seq ackSeq 0 0 v body) = some bytes → goodFrame p kind seq ackSeq v body = i →
      ∃ p, decodeFrame p bytes = i := fun fits hb hi =>
    ⟨_, by rw [← Option.some.inj hb, decodeFrame_frameBytes _ _ _ _ _ _ _ fits]; exact hi⟩
  cases i with
  | msg p seq ackSeq v body =>
    exact sent (of_decide_eq_true wf) encoded rfl
  | ack p seq ackSeq v => exact sent (by decide) encoded rfl
  | replayReq p number => exact sent (by decide) encoded rfl
  | train p revision => exact sent (by simp) encoded rfl
  | linkDownFrame p reason => exact sent (by simp) encoded rfl
  | _ => cases encoded

/-! ### The end of an event -/

variable {s t u : State} {p : Port}

theorem drain_of_idle (idle : s.freeUnitIdle) : s.drain = s := by
  unfold State.drain
  cases hq : s.mgmt.queue with
  | nil => rfl
  | cons q rest =>
    rw [List.length_cons]
    unfold drainFor
    split
    · next free _ => exact absurd (idle free) (by rw [hq]; exact List.cons_ne_nil _ _)
    · rfl

theorem finish_of_idle (idle : s.freeUnitIdle) : s.finish = s.settle := by
  unfold State.finish
  rw [drain_of_idle idle]

/-! ### The acknowledgement of a frame (R141) -/

theorem receives_iff : s.receives p = true ↔ (s.link p).state = .active ∧ s.mgmt.unit ≠ .restartDue := by
  simp [State.receives, State.linkActive]

theorem active_of_receives (h : s.receives p = true) : (s.link p).state = .active := (receives_iff.1 h).1

theorem linkActive_iff : s.linkActive p = true ↔ (s.link p).state = .active := decide_eq_true_iff

theorem link_dropRequests (s : State) (p q : Port) : (s.dropRequests p).link q = s.link q := rfl

theorem state_link_removeVote (s : State) (p : Port) : ((s.removeVote p).link p).state = (s.link p).state := by
  unfold State.removeVote
  split
  · obtain ⟨r, h⟩ := onlyPort_raiseNotice (s.setVote p false) (otherPort p) (.retainVote false)
    rw [h]
    cases p <;> rfl
  · rfl

/-- A link that goes down is not ACTIVE after it. -/
theorem linkActive_linkDown (s : State) (p : Port) (why : DownReason) : (s.linkDown p why).linkActive p = false := by
  unfold State.linkDown
  split
  · simp only
    rw [linkActive_eq_false, state_link_removeVote, link_dropRequests, state_link_orphanPort, link_setLink_self]
    exact nofun
  · next h => exact Bool.eq_false_of_not_eq_true h

theorem linkDown_of_not_active (h : (s.link p).state ≠ .active) (why : DownReason) : s.linkDown p why = s := by
  unfold State.linkDown
  rw [if_neg (by rw [linkActive_iff]; exact h)]

/-- What the taking of an acknowledgement can leave: the management record, or the RESTART due, or the link down. -/
theorem mgmt_takeAck (s : State) (p : Port) (ackSeq : Byte) (v : Bool) :
    (s.takeAck p ackSeq v).mgmt = s.mgmt ∨ (s.takeAck p ackSeq v).mgmt = { s.mgmt with unit := .restartDue } ∨
      (s.takeAck p ackSeq v).linkActive p = false := by
  unfold State.takeAck
  split
  · simp only
    split
    · unfold State.ackProgress State.noteRestart
      simp only
      split
      · exact .inr (.inl (by rw [mgmt_setLink]))
      · exact .inl (mgmt_setLink ..)
    · split
      · exact .inl rfl
      · exact .inr (.inr (linkActive_linkDown s p _))
  · exact .inl rfl

theorem mgmt_takeAck_of_receives {ackSeq : Byte} {v : Bool} (h : (s.takeAck p ackSeq v).receives p = true) :
    (s.takeAck p ackSeq v).mgmt = s.mgmt := by
  obtain ⟨active, unit⟩ := receives_iff.1 h
  rcases mgmt_takeAck s p ackSeq v with same | due | down
  · exact same
  · exact absurd (congrArg Management.unit due) unit
  · exact absurd active (linkActive_eq_false.1 down)

/-! ### What a MSG frame does, step by step (R137) -/

theorem execMsg_of_not_receives (seq ackSeq : Byte) (v : Bool) (body : List Byte) (h : s.receives p = false) :
    exec (.msg p seq ackSeq v body) s = .next s := if_pos h

theorem execMsg_of_ended {seq ackSeq : Byte} {v : Bool} {body : List Byte} (fits : body.length ≤ 300)
    (h : s.receives p = true) (ended : (s.takeAck p ackSeq v).receives p = false) :
    exec (.msg p seq ackSeq v body) s = .next (s.takeAck p ackSeq v).finish := by
  change execMsg p seq ackSeq v body s = _
  unfold execMsg
  rw [if_neg (by rw [h]; exact nofun), if_neg (by simp [bodyFits, fits])]
  exact if_pos ended

/-- The outcome of taking a message. -/
def outcomeOf : Option State → Host.Outcome State Fault Refusal
  | none => .fault .noFreeSlot
  | some u => .next u.finish

theorem execMsg_of_receives {seq ackSeq : Byte} {v : Bool} {body : List Byte} (fits : body.length ≤ 300)
    (h : s.receives p = true) (still : (s.takeAck p ackSeq v).receives p = true) :
    exec (.msg p seq ackSeq v body) s = outcomeOf ((s.takeAck p ackSeq v).takeMessage p seq body) := by
  change execMsg p seq ackSeq v body s = _
  unfold execMsg outcomeOf
  rw [if_neg (by rw [h]; exact nofun), if_neg (by simp [bodyFits, fits])]
  simp only
  exact if_neg (by rw [still]; exact nofun)

theorem execMsg_of_expected {seq ackSeq : Byte} {v : Bool} {body : List Byte} (fits : body.length ≤ 300)
    (h : s.receives p = true) (still : (s.takeAck p ackSeq v).receives p = true)
    (expected : seq = ((s.takeAck p ackSeq v).link p).expected) :
    exec (.msg p seq ackSeq v body) s =
      outcomeOf ((s.takeAck p ackSeq v).acceptMessage p (bodyHead body) (parseBody body)) := by
  rw [execMsg_of_receives fits h still]
  unfold State.takeMessage
  rw [if_pos expected]

theorem requestArrives_of_receives (h : s.receives p = true) (tag : Byte) (block : BitVec 32) (r : MgmtRequest) :
    s.requestArrives p tag block r =
      outcomeOf (s.acceptMessage p ⟨byteOf (mgmtKindCode r), tag, block⟩ (.management r)) := by
  unfold State.requestArrives outcomeOf
  exact if_neg (by rw [h]; exact nofun)

/-- The class of credit a message takes is not exhausted. -/
theorem noCredit_eq_false {l : Link} {cls : Option RequestClass} (mem : cls = some .memory → l.memOut ≠ 0)
    (mgmt : cls = some .management → l.mgmtOut ≠ 0) : l.noCredit cls = false := by
  rcases cls with _ | _ | _
  · rfl
  · exact decide_eq_false (mem rfl)
  · exact decide_eq_false (mgmt rfl)

theorem acceptMessage_of_credit {head : BodyHead} {m : Parsed} (credit : (s.link p).noCredit m.creditClass = false) :
    s.acceptMessage p head m = match (s.acceptFrame p m.creditClass).decoderRefusal p head m with
      | some why => some ((s.acceptFrame p m.creditClass).refuseMessage p head m.creditClass why)
      | none => (s.acceptFrame p m.creditClass).route p head m := by
  unfold State.acceptMessage
  exact if_neg (by rw [credit]; exact Bool.false_ne_true)

theorem tagInUse_acceptFrame (s : State) (p q : Port) (cls : Option RequestClass) (tag : Byte) :
    (s.acceptFrame p cls).tagInUse q tag = s.tagInUse q tag := by
  rw [acceptFrame_eq]
  cases p <;> rfl

theorem decoderRefusal_memory {head : BodyHead} {r : MemRequest} (new : s.tagInUse p head.tag = false) :
    s.decoderRefusal p head (.memory r) = none := if_neg (by rw [new]; exact Bool.false_ne_true)

theorem decoderRefusal_management {head : BodyHead} {r : MgmtRequest} (new : s.tagInUse p head.tag = false) :
    s.decoderRefusal p head (.management r) = none := if_neg (by rw [new]; exact Bool.false_ne_true)

end Sys2Proof.Machine.Frames

end

section
/-! The messages of a processor: what admits one, what refuses one, and what becomes of a frame out of its order. -/

namespace Sys2Proof.Machine.Frames

open Sys2Proof.Machine.Steps Sys2Proof.Machine.Accounts Sys2Proof.Machine.Upkeep

variable {s t u : State} {p : Port}

/-! ### Admission of a memory request (R27, R31) -/

theorem newEntry_record (s : State) (owner : Owner) (kind : EntryKind) (first count age : Nat) (data : List (List Byte)) :
    let e := s.newEntry owner kind first count age data
    e = ⟨owner, kind, first, count, data, age, e.state, e.holds, [], [], none, none⟩ ∧
      e.holds = holdsOf s.table s.fill e ∧
      e.state = if e.holds.isEmpty = false then .held else if kind = .barrier then .done else .queued := by
  unfold State.newEntry Entry.reheld
  simp only [Entry.isBarrier]
  generalize hh : holdsOf s.table s.fill _ = holds
  cases empty : holds.isEmpty
  · simp only [Bool.false_eq_true, if_true, if_false]
    exact ⟨trivial, hh.symm, by simp [empty]⟩
  · simp only [if_true]
    exact ⟨trivial, hh.symm, by simp [empty]⟩

theorem memEntryKind_eq_barrier {r : MemRequest} : memEntryKind r = .barrier ↔ r = .barrier := by
  cases r <;> simp [memEntryKind]

theorem vote_accepting (r : PortRec) (now : Time) (cls : Option RequestClass) : (r.accepting now cls).vote = r.vote := by
  unfold PortRec.accepting
  simp only
  split <;> rfl

theorem session_accepting (r : PortRec) (now : Time) (cls : Option RequestClass) :
    (r.accepting now cls).session = r.session := by
  unfold PortRec.accepting
  simp only
  split <;> rfl

theorem state_accepting (r : PortRec) (now : Time) (cls : Option RequestClass) :
    (r.accepting now cls).link.state = r.link.state := by
  unfold PortRec.accepting
  simp only
  split <;> rfl

theorem control_accepting (r : PortRec) (now : Time) (cls : Option RequestClass) :
    (r.accepting now cls).link.control = r.link.control := by
  unfold PortRec.accepting
  simp only
  split <;> rfl

theorem intakeRefusal_of_range {r : MemRequest} {first count : Nat} (range : memRange r = some (first, count)) :
    s.intakeRefusal p r =
      if 33554432 ≤ first ∨ 64 < first % 64 + count then some .badAddress
      else if memAllowed r (s.rightsOver p (first / 2048)) = false then some .accessDenied
      else if s.power.state = .entering then some .power else none := by
  unfold State.intakeRefusal
  rw [range]
  simp only [capacity, rowContained, granuleOf, decide_eq_false_iff_not, not_le]
  rfl

theorem intakeRefusal_of_no_range {r : MemRequest} (range : memRange r = none) :
    s.intakeRefusal p r = if s.power.state = .entering then some .power else none := by
  unfold State.intakeRefusal
  rw [range]

/-- Every check of the range of a memory request passes. -/
def RangePasses (s : State) (p : Port) (r : MemRequest) : Prop :=
  ∀ first count, memRange r = some (first, count) →
    first < 33554432 ∧ first % 64 + count ≤ 64 ∧ memAllowed r (s.rightsOver p (first / 2048)) = true

/-- Where the range passes its checks, ENTERING alone refuses. -/
theorem intakeRefusal_of_passes {r : MemRequest} (passes : RangePasses s p r) :
    s.intakeRefusal p r = if s.power.state = .entering then some .power else none := by
  cases range : memRange r with
  | none => exact intakeRefusal_of_no_range range
  | some x =>
    obtain ⟨first, count⟩ := x
    obtain ⟨below, within, allowed⟩ := passes first count range
    rw [intakeRefusal_of_range range, if_neg (by omega), if_neg (by rw [allowed]; exact nofun)]

theorem removeVote_eq (s : State) (p : Port) : s.removeVote p =
    if (s.port p).vote = true then (s.setVote p false).raiseNotice (otherPort p) (.retainVote false) else s := rfl

/-- The admission of a request into a slot, on a state whose port has just been written. -/
theorem admission_eq (s : State) (p : Port) (rp : PortRec) (tag : Byte) (r : MemRequest) (k : Nat) :
    let e := (s.setPort p rp).newEntry (.port p tag rp.session false) (memEntryKind r) ((memRange r).getD (0, 0)).1
      ((memRange r).getD (0, 0)).2 s.ageCounter (memData r)
    (s.setPort p rp).admission p tag r k = State.removeVote (State.setPort
      { s with
        ageCounter := s.ageCounter + 1
        table := Sparse.insert s.table k e
        power := if s.power.state = .nap then { s.power with state := .active, exitDue := some (s.now + ns 20) }
          else s.power }
      p { rp with replies := if e.state = .done then rp.replies ++ [k] else rp.replies }) p := by
  intro e
  have own : e.owner = .port p tag rp.session false := owner_newEntry ..
  have placed := place_port (s.setPort p rp).takeAge k own
  have start : (s.setPort p rp).admission p tag r k = (((s.setPort p rp).takeAge.place k e).endNap).removeVote p := by
    change (((s.setPort p rp).takeAge.place k ((s.setPort p rp).newEntry
      (.port p tag ((s.setPort p rp).port p).session false) _ _ _ _ _)).endNap).removeVote p = _
    rw [port_setPort_self]
    cases p <;> rfl
  rw [start, placed, endNap_eq]
  cases p <;> rfl

/-! ### The head that a refusal repeats (R159) -/

theorem byteOf_field_zero (body : List Byte) : byteOf (field body 0 1) = body.getD 0 0 := by
  unfold field byteOf
  cases body with
  | nil => rfl
  | cons b rest => simp [leNat]

theorem parseBody_management {body : List Byte} {q : MgmtRequest} (h : parseBody body = .management q) :
    parseManagement body = some q := by
  unfold parseBody at h
  split at h
  · cases h
  · split at h <;> cases h
  · split at h
    · cases h
    · next found =>
      cases h
      exact found

theorem mgmtLength_ge (kind : Nat) : 12 ≤ mgmtLength kind := by
  unfold mgmtLength
  split
  · decide
  · split <;> decide

theorem parseManagement_some {body : List Byte} {q : MgmtRequest} (h : parseManagement body = some q) :
    12 ≤ body.length ∧ field body 0 1 = mgmtKindCode q := by
  unfold parseManagement at h
  simp only [ite_eq_iff, reduceCtorEq, and_false, false_or, or_false, Option.some.injEq] at h
  obtain ⟨length, h⟩ := h
  refine ⟨by have := mgmtLength_ge (field body 0 1); omega, ?_⟩
  rcases h with ⟨k, rfl⟩ | ⟨-, ⟨k, rfl⟩ | ⟨-, ⟨k, rfl⟩ | ⟨-, ⟨k, rfl⟩ | ⟨-, ⟨k, rfl⟩ | ⟨-, ⟨k, rfl⟩ | ⟨-, ⟨k, rfl⟩ |
    ⟨-, ⟨k, rfl⟩ | ⟨-, ⟨k, rfl⟩ | ⟨-, ⟨k, rfl⟩ | ⟨-, ⟨k, rfl⟩ | ⟨-, ⟨k, rfl⟩ | ⟨-, k, rfl⟩⟩⟩⟩⟩⟩⟩⟩⟩⟩⟩⟩ <;> exact k

/-- The head of a management request's body is the request's own kind, with the tag and the block number carried. -/
theorem bodyHead_management {body : List Byte} {q : MgmtRequest} (h : parseBody body = .management q) :
    bodyHead body = ⟨byteOf (mgmtKindCode q), body.getD 1 0#8, BitVec.ofNat 32 (leNat ((body.drop 4).take 4))⟩ := by
  obtain ⟨length, kind⟩ := parseManagement_some (parseBody_management h)
  unfold bodyHead
  rw [← kind, byteOf_field_zero, if_pos (by omega)]
  rfl

/-! ### A request admitted or queued -/

theorem acceptMessage_memory {head : BodyHead} {r : MemRequest} (credit : (s.link p).memOut ≠ 0)
    (new : s.tagInUse p head.tag = false) :
    s.acceptMessage p head (.memory r) = (s.setPort p ((s.port p).accepting s.now (some .memory))).intake p head r := by
  rw [acceptMessage_of_credit (noCredit_eq_false (fun _ => credit) (fun h => by cases h)),
    decoderRefusal_memory ((tagInUse_acceptFrame s p p _ _).trans new), acceptFrame_eq]
  rfl

theorem acceptMessage_management {head : BodyHead} {r : MgmtRequest} (new : s.tagInUse p head.tag = false)
    (credit : (s.link p).mgmtOut ≠ 0) : s.acceptMessage p head (.management r) = some (State.setPort
      { s with mgmt := { s.mgmt with queue := s.mgmt.queue ++ [⟨p, head.tag, r⟩] } } p
      ((s.port p).accepting s.now (some .management))) := by
  rw [acceptMessage_of_credit (noCredit_eq_false (fun h => by cases h) (fun _ => credit)),
    decoderRefusal_management ((tagInUse_acceptFrame s p p _ _).trans new), acceptFrame_eq]
  cases p <;> rfl

/-- With no credit of its class outstanding a message takes the link down. -/
theorem acceptMessage_of_no_credit {head : BodyHead} {m : Parsed} (none : (s.link p).noCredit m.creditClass = true) :
    s.acceptMessage p head m = some (s.linkDown p .creditViolation) := if_pos none

/-- The block number of the head is seen by a refusal alone. -/
theorem acceptMessage_management_block (s : State) (p : Port) (kind tag : Byte) (block : BitVec 32) (r : MgmtRequest)
    (new : s.tagInUse p tag = false) :
    s.acceptMessage p ⟨kind, tag, block⟩ (.management r) = s.acceptMessage p ⟨kind, tag, 0⟩ (.management r) := by
  by_cases credit : (s.link p).mgmtOut = 0
  · have none : (s.link p).noCredit (Parsed.management r).creditClass = true := decide_eq_true credit
    rw [acceptMessage_of_no_credit none, acceptMessage_of_no_credit none]
  · rw [acceptMessage_management (head := ⟨kind, tag, block⟩) new credit,
      acceptMessage_management (head := ⟨kind, tag, 0⟩) new credit]

theorem rightsOver_setPort (s : State) (p q : Port) (rp : PortRec) (g : Nat) :
    (s.setPort p rp).rightsOver q g = s.rightsOver q g := by cases p <;> rfl

theorem freeSlot_setPort (s : State) (p : Port) (rp : PortRec) (a b : Nat) :
    (s.setPort p rp).freeSlot a b = s.freeSlot a b := by cases p <;> rfl

theorem freeUnitIdle_takeAck (idle : s.freeUnitIdle) {ackSeq : Byte} {v : Bool}
    (still : (s.takeAck p ackSeq v).receives p = true) : (s.takeAck p ackSeq v).freeUnitIdle :=
  freeUnitIdle_of_mgmt idle (mgmt_takeAck_of_receives still)

/-- Settles O39: a request that passes every check, in the two classes. -/
theorem memoryRequestsAreAdmitted : Obligations.MemoryRequestsAreAdmitted := by
  refine ⟨fun s p seq ackSeq v body r k receives fits still => ?_, fun s p seq ackSeq v body q receives fits still => ?_⟩
  · intro u expected parsed credit new passes awake free idle
    have taken : exec (.msg p seq ackSeq v body) s = outcomeOf (u.acceptMessage p (bodyHead body) (parseBody body)) :=
      execMsg_of_expected fits receives still expected
    have idleAfter : u.freeUnitIdle := freeUnitIdle_takeAck idle still
    clear_value u
    let rp := (u.port p).accepting u.now (some .memory)
    have none : (u.setPort p rp).intakeRefusal p r = none := by
      rw [intakeRefusal_of_passes (fun first count range => by
        obtain ⟨below, within, allowed⟩ := passes first count range
        exact ⟨below, within, by rw [rightsOver_setPort]; exact allowed⟩)]
      exact if_neg (by rw [power_setPort]; exact awake)
    have session : rp.session = (u.port p).session := session_accepting ..
    have vote : rp.vote = (u.port p).vote := vote_accepting ..
    obtain ⟨record, holds, state⟩ := newEntry_record (u.setPort p rp) (.port p (body.getD 1 0#8) rp.session false)
      (memEntryKind r) ((memRange r).getD (0, 0)).1 ((memRange r).getD (0, 0)).2 u.ageCounter (memData r)
    refine ⟨_, record.trans (by rw [session]), by rw [table_setPort, fill_setPort] at holds; exact holds, ?_, ?_⟩
    · simp only [memEntryKind_eq_barrier] at state
      exact state
    · intro accepted t
      rw [taken, parsed, acceptMessage_memory credit new]
      unfold State.intake
      rw [none]
      simp only
      rw [freeSlot_setPort, free, Option.map_some, admission_eq]
      unfold outcomeOf
      simp only
      rw [finish_of_idle (freeUnitIdle_of_mgmt idleAfter (by rw [mgmt_removeVote, mgmt_setPort])), removeVote_eq,
        port_setPort_self]
      exact congrArg (fun w : State => Host.Outcome.next w.settle) (if_congr (by rw [← vote]) rfl rfl)
  · intro u tag block expected parsed
    have taken : exec (.msg p seq ackSeq v body) s = outcomeOf (u.acceptMessage p (bodyHead body) (parseBody body)) :=
      execMsg_of_expected fits receives still expected
    have receivesAfter : u.receives p = true := still
    clear_value u
    refine ⟨?_, fun new => ⟨?_, fun credit => ?_⟩⟩
    · rw [taken, parsed, bodyHead_management parsed, requestArrives_of_receives receivesAfter]
    · rw [requestArrives_of_receives receivesAfter, requestArrives_of_receives receivesAfter]
      exact congrArg outcomeOf (acceptMessage_management_block u p _ _ _ q new)
    · rw [taken, parsed, bodyHead_management parsed]
      exact congrArg outcomeOf (acceptMessage_management (head := ⟨_, tag, _⟩) new credit)

/-! ### Refusals (R144, R146, R161) -/

theorem placeControl_of_room (active : (s.link p).state = .active) (room : (s.link p).control.length < 64) (m : Message) :
    s.placeControl p m = s.setLink p { s.link p with control := (s.link p).control ++ [m] } := by
  unfold State.placeControl
  rw [if_pos (linkActive_iff.2 active)]
  exact if_neg (by omega)

theorem placeControl_of_full (active : (s.link p).state = .active) (full : 64 ≤ (s.link p).control.length) (m : Message) :
    s.placeControl p m = s.linkDown p .queueOverrun := by
  unfold State.placeControl
  rw [if_pos (linkActive_iff.2 active)]
  exact if_pos full

theorem placeControl_of_not_active (h : (s.link p).state ≠ .active) (m : Message) : s.placeControl p m = s :=
  if_neg (by rw [linkActive_iff]; exact h)

theorem returnCredit_of_active (active : (s.link p).state = .active) (cls : RequestClass) :
    s.returnCredit p cls = s.setLink p { s.link p with
      ackDue := some ((s.link p).ackDue.getD (s.now + us 1))
      memPend := if cls = .memory then (s.link p).memPend + 1 else (s.link p).memPend
      mgmtPend := if cls = .management then (s.link p).mgmtPend + 1 else (s.link p).mgmtPend } := by
  unfold State.returnCredit Link.startAckTimer
  rw [if_pos (linkActive_iff.2 active)]
  cases cls <;> cases (s.link p).ackDue <;> rfl

theorem returnCredit_of_not_active (h : s.linkActive p = false) (cls : RequestClass) : s.returnCredit p cls = s :=
  if_neg (by rw [h]; exact Bool.false_ne_true)

/-- A refusal with room in the control queue: the REFUSED at its tail, and the credit taken back in pending return. -/
theorem refuseMessage_of_room (active : (s.link p).state = .active) (room : (s.link p).control.length < 64)
    (head : BodyHead) (cls : Option RequestClass) (why : Reason) :
    s.refuseMessage p head cls why = s.setLink p { s.link p with
      ackDue := if cls = none then (s.link p).ackDue else some ((s.link p).ackDue.getD (s.now + us 1))
      memPend := if cls = some .memory then (s.link p).memPend + 1 else (s.link p).memPend
      mgmtPend := if cls = some .management then (s.link p).mgmtPend + 1 else (s.link p).mgmtPend
      control := (s.link p).control ++
        [⟨36, head.tag, head.kind, BitVec.ofNat 8 (reasonCode why), head.block, 0, []⟩] } := by
  unfold State.refuseMessage State.placeRefused
  rw [placeControl_of_room active room]
  rcases cls with _ | cls
  · rfl
  · simp only
    rw [returnCredit_of_active (by rw [link_setLink_self]; exact active), link_setLink_self, setLink_setLink, now_setLink]
    cases cls <;> rfl

theorem refuseMessage_of_full (active : (s.link p).state = .active) (full : 64 ≤ (s.link p).control.length)
    (head : BodyHead) (cls : Option RequestClass) (why : Reason) :
    s.refuseMessage p head cls why = s.linkDown p .queueOverrun := by
  unfold State.refuseMessage State.placeRefused
  rw [placeControl_of_full active full]
  rcases cls with _ | cls
  · rfl
  · exact returnCredit_of_not_active (linkActive_linkDown s p _) cls

/-- Why a message fails its checks (R28, R161), by the code of Table 9-6. -/
def FailsWith (s : State) (p : Port) (tag : Byte) (m : Parsed) (why : Reason) : Prop :=
  ((m = .unknownKind ∨ ∃ c, m = .malformed c) ∧ why = .badFormat) ∨
  (((∃ r, m = .memory r) ∨ ∃ r, m = .management r) ∧ s.tagInUse p tag = true ∧ why = .tagInUse) ∨
  ∃ r, m = .memory r ∧ s.tagInUse p tag = false ∧ s.intakeRefusal p r = some why

theorem link_setPort_self (s : State) (p : Port) (rp : PortRec) : (s.setPort p rp).link p = rp.link := by cases p <;> rfl

theorem intakeRefusal_setPort (s : State) (p : Port) (rp : PortRec) (r : MemRequest) :
    (s.setPort p rp).intakeRefusal p r = s.intakeRefusal p r := by cases p <;> rfl

theorem acceptMessage_of_fails {head : BodyHead} {m : Parsed} {why : Reason}
    (credit : (s.link p).noCredit m.creditClass = false) (fails : FailsWith s p head.tag m why) :
    s.acceptMessage p head m =
      some ((s.setPort p ((s.port p).accepting s.now m.creditClass)).refuseMessage p head m.creditClass why) := by
  rw [acceptMessage_of_credit credit, acceptFrame_eq]
  rcases fails with ⟨unreadable, rfl⟩ | ⟨request, used, rfl⟩ | ⟨r, rfl, new, refused⟩
  · rcases unreadable with rfl | ⟨c, rfl⟩ <;> rfl
  · have refusal : (s.setPort p ((s.port p).accepting s.now m.creditClass)).decoderRefusal p head m = some .tagInUse := by
      rw [← acceptFrame_eq]
      rcases request with ⟨r, rfl⟩ | ⟨r, rfl⟩ <;> exact if_pos ((tagInUse_acceptFrame ..).trans used)
    rw [refusal]
  · rw [decoderRefusal_memory (by rw [← acceptFrame_eq]; exact (tagInUse_acceptFrame ..).trans new)]
    simp only [State.route]
    unfold State.intake
    rw [intakeRefusal_setPort, refused]
    rfl

/-- The reason of each code that a failing message is answered with. -/
theorem fails_of_code {tag : Byte} {m : Parsed} {code : Nat}
    (h : ((m = .unknownKind ∨ ∃ c, m = .malformed c) ∧ code = 3) ∨
      (((∃ r, m = .memory r) ∨ ∃ r, m = .management r) ∧ u.tagInUse p tag = true ∧ code = 4) ∨
      (∃ r, m = .memory r ∧ u.tagInUse p tag = false ∧
        ((∃ first count, memRange r = some (first, count) ∧ (33554432 ≤ first ∨ 64 < first % 64 + count) ∧ code = 5) ∨
         (∃ first count, memRange r = some (first, count) ∧ first < 33554432 ∧ first % 64 + count ≤ 64 ∧
          memAllowed r (u.rightsOver p (first / 2048)) = false ∧ code = 6) ∨
         (u.power.state = .entering ∧ code = 7 ∧ RangePasses u p r)))) :
    ∃ why, reasonCode why = code ∧ FailsWith u p tag m why := by
  rcases h with ⟨unreadable, rfl⟩ | ⟨request, used, rfl⟩ | ⟨r, memory, new, refused⟩
  · exact ⟨.badFormat, rfl, .inl ⟨unreadable, rfl⟩⟩
  · exact ⟨.tagInUse, rfl, .inr (.inl ⟨request, used, rfl⟩)⟩
  · rcases refused with ⟨first, count, range, outside, rfl⟩ | ⟨first, count, range, below, within, denied, rfl⟩ |
      ⟨entering, rfl, passes⟩
    · refine ⟨.badAddress, rfl, .inr (.inr ⟨r, memory, new, ?_⟩)⟩
      rw [intakeRefusal_of_range range, if_pos outside]
    · refine ⟨.accessDenied, rfl, .inr (.inr ⟨r, memory, new, ?_⟩)⟩
      rw [intakeRefusal_of_range range, if_neg (by omega), if_pos denied]
    · refine ⟨.power, rfl, .inr (.inr ⟨r, memory, new, ?_⟩)⟩
      rw [intakeRefusal_of_passes passes, if_pos entering]

/-- Settles O40: by the check that fails, the queue with room or full. -/
theorem failingMessagesAreRefused : Obligations.FailingMessagesAreRefused := by
  refine ⟨fun s p seq ackSeq v body code receives fits still => ?_, fun s p m =>
    ⟨fun h => placeControl_of_not_active h m, fun active room => placeControl_of_room active room m,
      fun active full => placeControl_of_full active full m⟩⟩
  intro u l m accepted a expected mem mgmt fails
  have taken : exec (.msg p seq ackSeq v body) s = outcomeOf (u.acceptMessage p (bodyHead body) m) :=
    execMsg_of_expected fits receives still expected
  have idleAfter : s.freeUnitIdle → u.freeUnitIdle := fun idle => freeUnitIdle_takeAck idle still
  have active : ((u.setPort p accepted).link p).state = .active := by
    rw [link_setPort_self]
    exact (state_accepting ..).trans (active_of_receives still)
  have control : ((u.setPort p accepted).link p).control = l.control := by
    rw [link_setPort_self]
    exact control_accepting ..
  obtain ⟨why, rfl, reason⟩ := fails_of_code (tag := (bodyHead body).tag) fails
  have refused : u.acceptMessage p (bodyHead body) m =
      some ((u.setPort p accepted).refuseMessage p (bodyHead body) m.creditClass why) :=
    acceptMessage_of_fails (noCredit_eq_false mem mgmt) reason
  rw [taken, refused]
  refine ⟨fun room idle => ?_, fun full => ?_⟩
  · rw [refuseMessage_of_room active (by rw [control]; exact room)]
    unfold outcomeOf
    simp only
    rw [finish_of_idle (freeUnitIdle_of_mgmt (idleAfter idle) (by rw [mgmt_setLink, mgmt_setPort])), control,
      link_setPort_self, now_setPort]
    refine congrArg (fun w : State => Host.Outcome.next w.settle) ?_
    cases p <;> rfl
  · rw [refuseMessage_of_full active (by rw [control]; exact full)]
    rfl

end Sys2Proof.Machine.Frames

end

section
/-! Acknowledgements, losses, retries and what the part's own headers carry. -/

namespace Sys2Proof.Machine.Frames

open Sys2Proof.Machine.Steps Sys2Proof.Machine.Accounts Sys2Proof.Machine.Upkeep

variable {s t u : State} {p : Port}

/-! ### Frames out of their order (R137) -/

theorem takeMessage_of_other {seq : Byte} (body : List Byte) (other : seq ≠ (s.link p).expected) :
    s.takeMessage p seq body =
      if (s.link p).awaitingReplay then some s
      else if 1 ≤ ((s.link p).expected - seq).toNat ∧ ((s.link p).expected - seq).toNat ≤ 128 then some (s.sendAck p)
      else some (s.findLoss p) := if_neg other

/-- A number at a distance of at least 1 is not the expected one. -/
theorem ne_of_distance {a b : Byte} (h : 1 ≤ (a - b).toNat) : b ≠ a := by
  rintro rfl
  rw [BitVec.sub_self] at h
  exact absurd h (by decide)

theorem noCredit_eq_true {l : Link} {cls : Option RequestClass}
    (h : (cls = some .memory ∧ l.memOut = 0) ∨ (cls = some .management ∧ l.mgmtOut = 0)) : l.noCredit cls = true := by
  rcases h with ⟨rfl, h⟩ | ⟨rfl, h⟩ <;> exact decide_eq_true h

/-- Settles O41: by where the link receives and by the distance of the number. -/
theorem messagesAreTakenInSequence : Obligations.MessagesAreTakenInSequence := by
  intro s p seq ackSeq v body fits u l
  refine ⟨execMsg_of_not_receives seq ackSeq v body, execMsg_of_ended fits, fun receives still => ?_⟩
  have taken : exec (.msg p seq ackSeq v body) s = outcomeOf (u.takeMessage p seq body) :=
    execMsg_of_receives fits receives still
  refine ⟨fun expected exhausted => ?_, fun other awaiting => ?_, fun normal near duplicate => ?_, fun normal far => ?_⟩
  · rw [execMsg_of_expected fits receives still expected, acceptMessage_of_no_credit (noCredit_eq_true exhausted)]
    rfl
  · rw [taken, takeMessage_of_other body other, if_pos awaiting]
    rfl
  · rw [taken, takeMessage_of_other body (ne_of_distance near), if_neg (by rw [show (u.link p).awaitingReplay = _ from normal]; exact Bool.false_ne_true),
      if_pos ⟨near, duplicate⟩]
    rfl
  · have near : 1 ≤ (l.expected - seq).toNat := by omega
    rw [taken, takeMessage_of_other body (ne_of_distance near), if_neg (by rw [show (u.link p).awaitingReplay = _ from normal]; exact Bool.false_ne_true),
      if_neg (fun h => absurd h.2 (by exact Nat.not_le.2 far))]
    rfl

/-! ### Acknowledgement progress (R141, R152) -/

/-- The frames removed hold the reply of the RESTART that the unit is stopped for. -/
def EndsRestart (s : State) (p : Port) (dropped : List BufferedFrame) : Prop :=
  s.mgmt.unit = .stopped p ∧ ∃ f ∈ dropped, f.message.kind = 37 ∧ f.message.option = 28 ∧ f.message.status = 0

theorem noteRestart_cond (s : State) (p : Port) (dropped : List BufferedFrame) :
    (s.mgmt.unit = .stopped p ∧ (dropped.any fun f => f.message.isRestartReply) = true) ↔ EndsRestart s p dropped := by
  unfold EndsRestart Message.isRestartReply
  simp only [List.any_eq_true, decide_eq_true_eq]

/-- The unit after the removal of some frames. -/
def unitAfter (s : State) (p : Port) (dropped : List BufferedFrame) : UnitState :=
  if s.mgmt.unit = .stopped p ∧ (dropped.any fun f => f.message.isRestartReply) = true then .restartDue else s.mgmt.unit

theorem noteRestart_eq (s : State) (p : Port) (dropped : List BufferedFrame) :
    s.noteRestart p dropped = { s with mgmt := ⟨s.mgmt.queue, unitAfter s p dropped⟩ } := by
  unfold State.noteRestart unitAfter
  split <;> rfl

theorem unitAfter_spec (s : State) (p : Port) (dropped : List BufferedFrame) :
    (EndsRestart s p dropped → unitAfter s p dropped = .restartDue) ∧
      (¬ EndsRestart s p dropped → unitAfter s p dropped = s.mgmt.unit) :=
  ⟨fun h => if_pos ((noteRestart_cond ..).2 h), fun h => if_neg fun k => h ((noteRestart_cond ..).1 k)⟩

theorem replayTimerFor_eq (now : Time) (buffer : List BufferedFrame) :
    replayTimerFor now buffer = if buffer = [] then none else some (now + us 20) := by
  cases buffer <;> rfl

theorem movedResend_eq (resend : Option Byte) (dropped kept : List BufferedFrame) :
    movedResend resend dropped kept = match resend with
      | none => none
      | some n => if ∃ f ∈ dropped, f.number = n then kept.head?.map fun f => f.number else some n := by
  cases resend with
  | none => rfl
  | some n => exact if_congr (by simp [List.any_eq_true]) rfl rfl

theorem ackProgress_eq (s : State) (p : Port) (n : Nat) :
    s.ackProgress p n = State.setLink { s with mgmt := ⟨s.mgmt.queue, unitAfter s p ((s.link p).buffer.take n)⟩ } p
      { s.link p with
        buffer := (s.link p).buffer.drop n
        retry := 0
        replayDue := if (s.link p).buffer.drop n = [] then none else some (s.now + us 20)
        resend := movedResend (s.link p).resend ((s.link p).buffer.take n) ((s.link p).buffer.drop n) } := by
  have unit : ∀ (l : Link) (d : List BufferedFrame), unitAfter (s.setLink p l) p d = unitAfter s p d := fun l d => by
    unfold unitAfter
    rw [mgmt_setLink]
  unfold State.ackProgress
  simp only
  rw [noteRestart_eq, unit, replayTimerFor_eq, mgmt_setLink]
  cases p <;> rfl

theorem takeAck_of_named {ackSeq : Byte} (named : ((s.link p).next - 1 - ackSeq).toNat < (s.link p).buffer.length) :
    s.takeAck p ackSeq true = s.ackProgress p ((s.link p).buffer.length - ((s.link p).next - 1 - ackSeq).toNat) := by
  unfold State.takeAck
  exact if_pos named

theorem takeAck_of_unnamed {ackSeq : Byte} (unnamed : (s.link p).buffer.length ≤ ((s.link p).next - 1 - ackSeq).toNat) :
    s.takeAck p ackSeq true =
      if ((s.link p).next - 1 - ackSeq).toNat < (s.link p).sentCount then s else s.linkDown p .badAck := by
  unfold State.takeAck
  exact if_neg (Nat.not_lt.2 unnamed)

/-! ### Nothing is received while a RESTART is due (R173) -/

theorem not_receives_of_due (due : s.mgmt.unit = .restartDue) (p : Port) : s.receives p = false :=
  Bool.eq_false_of_not_eq_true fun h => (receives_iff.1 h).2 due

theorem execAck_of_not_receives (seq ackSeq : Byte) (v : Bool) (h : s.receives p = false) :
    exec (.ack p seq ackSeq v) s = .next s := if_pos h

theorem execReplayReq_of_not_receives (n : Byte) (h : s.receives p = false) : exec (.replayReq p n) s = .next s := if_pos h

theorem execLinkDownFrame_of_not_receives (reason : Byte) (h : s.receives p = false) :
    exec (.linkDownFrame p reason) s = .next s := if_pos h

theorem execBadFrame_of_discarded (h : s.receives p = false ∨ (s.link p).awaitingReplay = true) :
    exec (.badFrame p) s = .next s := by
  change Host.Outcome.next (s.takeBadFrame p) = _
  unfold State.takeBadFrame
  rw [if_neg]
  rcases h with h | h <;> simp [h]

/-- Settles O42: by the distance of the acknowledged number from the newest sent. -/
theorem acknowledgementsEmptyTheBuffer : Obligations.AcknowledgementsEmptyTheBuffer := by
  refine ⟨fun s p ackSeq => ?_, fun s p ackSeq => ?_, fun s p due => ?_⟩
  · intro l k
    refine ⟨rfl, fun named => ?_, fun unnamed within => ?_, fun unnamed beyond => ?_⟩
    · intro kept restart
      obtain ⟨yes, no⟩ := unitAfter_spec s p (l.buffer.take (l.buffer.length - k))
      refine ⟨_, yes, no, ?_⟩
      refine ((takeAck_of_named named).trans (ackProgress_eq ..)).trans ?_
      exact congrArg (fun r => State.setLink _ p { s.link p with
        buffer := kept
        retry := 0
        replayDue := if kept = [] then none else some (s.now + us 20)
        resend := r }) (movedResend_eq ..)
    · rw [takeAck_of_unnamed unnamed, if_pos within]
    · rw [takeAck_of_unnamed unnamed, if_neg (Nat.not_lt.2 beyond)]
  · intro l k stopped named
    rw [takeAck_of_named named, ackProgress_eq, mgmt_setLink]
    refine congrArg (Management.mk s.mgmt.queue) ?_
    unfold unitAfter
    rw [stopped]
    exact if_congr (by simp only [Message.isRestartReply, List.any_eq_true, decide_eq_true_eq, true_and]; rfl) rfl rfl
  · have closed := not_receives_of_due due p
    exact ⟨fun seq ackSeq v body => execMsg_of_not_receives seq ackSeq v body closed,
      fun seq ackSeq v => execAck_of_not_receives seq ackSeq v closed, fun n => execReplayReq_of_not_receives n closed,
      execBadFrame_of_discarded (.inl closed), fun reason => execLinkDownFrame_of_not_receives reason closed,
      fun rev => if_pos due, fun tag block r => if_pos closed⟩

/-! ### Losses (R138) -/

theorem execAck_of_receives (seq ackSeq : Byte) (v : Bool) (h : s.receives p = true) :
    exec (.ack p seq ackSeq v) s = .next (State.finish (if (s.takeAck p ackSeq v).receives p
      then (s.takeAck p ackSeq v).takeAckSeq p seq else s.takeAck p ackSeq v)) :=
  if_neg (by rw [h]; exact nofun)

theorem takeAckSeq_of_normal {seq : Byte} (normal : (s.link p).awaitingReplay = false) :
    s.takeAckSeq p seq = if 1 ≤ (seq - (s.link p).expected).toNat ∧ (seq - (s.link p).expected).toNat ≤ 127
      then s.findLoss p else s := by
  unfold State.takeAckSeq
  exact if_neg (by rw [normal]; exact Bool.false_ne_true)

theorem takeAckSeq_of_awaiting {seq : Byte} (awaiting : (s.link p).awaitingReplay = true) :
    s.takeAckSeq p seq = if seq = (s.link p).expected
      then s.setLink p { s.link p with awaitingReplay := false, replayRequestDue := none } else s := by
  unfold State.takeAckSeq
  exact if_pos awaiting

theorem findLoss_eq (s : State) (p : Port) : s.findLoss p = s.setPort p { s.port p with
    tx := (s.port p).tx ++ [⟨3, (s.link p).expected, 0, 0, 0, false, []⟩]
    link := { s.link p with awaitingReplay := true, replayRequestDue := some (s.now + us 20) } } := by
  cases p <;> rfl

/-- Settles O43: by where the link receives and by its receive condition. -/
theorem lossesAreReplayed : Obligations.LossesAreReplayed := by
  refine ⟨fun s p seq ackSeq v => ⟨execAck_of_not_receives seq ackSeq v, fun receives ended => ?_⟩,
    fun s p seq ackSeq v receives still => ?_,
    fun s p => ⟨fun receives normal => ?_, execBadFrame_of_discarded⟩,
    fun s p => ⟨fun closed => ⟨fun n => execReplayReq_of_not_receives n closed,
      fun reason => execLinkDownFrame_of_not_receives reason closed⟩, fun receives reason =>
        if_neg (by rw [receives]; exact nofun)⟩⟩
  · rw [execAck_of_receives seq ackSeq v receives, if_neg (by rw [ended]; exact Bool.false_ne_true)]
  · intro u l d
    have taken : exec (.ack p seq ackSeq v) s = .next (u.takeAckSeq p seq).finish := by
      rw [execAck_of_receives seq ackSeq v receives, if_pos still]
    refine ⟨fun normal near far => ?_, fun normal none => ?_, fun awaiting => ?_⟩
    · rw [taken, takeAckSeq_of_normal normal, if_pos ⟨near, far⟩]
    · rw [taken, takeAckSeq_of_normal normal, if_neg (show ¬ (1 ≤ d ∧ d ≤ 127) by omega)]
    · rw [taken, takeAckSeq_of_awaiting awaiting]
  · intro lost
    refine ⟨findLoss_eq s p, ?_⟩
    change Host.Outcome.next (s.takeBadFrame p) = _
    unfold State.takeBadFrame
    rw [if_pos (by rw [receives, normal]; rfl), findLoss_eq]

/-! ### Retries (R142, R143) -/

theorem retryAttempt_of_few (few : (s.link p).retry < 3) :
    s.retryAttempt p = s.setLink p { s.link p with retry := (s.link p).retry + 1 } := by
  unfold State.retryAttempt
  exact if_neg (by omega)

theorem retryAttempt_of_many (many : 3 ≤ (s.link p).retry) : s.retryAttempt p = s.linkDown p .retryLimit := by
  unfold State.retryAttempt
  exact if_pos (by omega)

theorem unitAfter_nil (s : State) (p : Port) : unitAfter s p [] = s.mgmt.unit := if_neg (fun h => by cases h.2)

/-- The state a rewind leaves before its retry attempt is counted. -/
theorem rewind_eq (s : State) (p : Port) (n : Byte) :
    s.rewind p n = State.retryAttempt (State.setLink
      { s with mgmt := ⟨s.mgmt.queue, unitAfter s p ((s.link p).buffer.take (n - (s.link p).oldest).toNat)⟩ } p
      { s.link p with
        buffer := (s.link p).buffer.drop (n - (s.link p).oldest).toNat
        resend := if (s.link p).buffer.drop (n - (s.link p).oldest).toNat = [] then none else some n
        replayDue := if (s.link p).buffer.drop (n - (s.link p).oldest).toNat = [] then none else some (s.now + us 20)
        retry := if 1 ≤ (n - (s.link p).oldest).toNat then 0 else (s.link p).retry }) p := by
  unfold State.rewind ahead
  simp only
  generalize (n - (s.link p).oldest).toNat = j
  refine congrArg (fun t : State => t.retryAttempt p) ?_
  by_cases some : 1 ≤ j
  · rw [if_pos some, if_pos some, ackProgress_eq]
    simp only [link_setLink_self, setLink_setLink, now_setLink, replayTimerFor_eq, List.isEmpty_iff]
  · obtain rfl : j = 0 := by omega
    rw [if_neg some, if_neg some, List.take_zero, unitAfter_nil]
    simp only [replayTimerFor_eq, List.isEmpty_iff, List.drop_zero]

theorem execReplayReq_of_within {n : Byte} (receives : s.receives p = true)
    (within : (n - (s.link p).oldest).toNat ≤ (s.link p).buffer.length) :
    exec (.replayReq p n) s = .next (s.rewind p n).finish :=
  (if_neg (by rw [receives]; exact nofun)).trans (if_pos within)

theorem execReplayReq_of_beyond {n : Byte} (receives : s.receives p = true)
    (beyond : (s.link p).buffer.length < (n - (s.link p).oldest).toNat) :
    exec (.replayReq p n) s = .next (s.linkDown p .badAck).finish :=
  (if_neg (by rw [receives]; exact nofun)).trans (if_neg (Nat.not_le.2 beyond))

theorem execAcknowledgementTimerExpiry_of_due {due : Time} (h : (s.link p).ackDue = some due) :
    exec (.acknowledgementTimerExpiry p) s = .next ((s.at due).sendAck p) := by
  change execAcknowledgementTimerExpiry p s = _
  unfold execAcknowledgementTimerExpiry
  rw [h]

theorem execReplayTimerExpiry_of_due {due : Time} (h : (s.link p).replayDue = some due) :
    exec (.replayTimerExpiry p) s = .next ((s.at due).replayAll p).finish := by
  change execReplayTimerExpiry p s = _
  unfold execReplayTimerExpiry
  rw [h]

theorem execReplayRequestTimerExpiry_of_due {due : Time} (h : (s.link p).replayRequestDue = some due) :
    exec (.replayRequestTimerExpiry p) s = .next ((s.at due).repeatReplayReq p).finish := by
  change execReplayRequestTimerExpiry p s = _
  unfold execReplayRequestTimerExpiry
  rw [h]

theorem repeatReplayReq_of_few (few : (s.link p).retry < 3) (active : (s.link p).state = .active) :
    s.repeatReplayReq p = s.setPort p { s.port p with
      tx := (s.port p).tx ++ [⟨3, (s.link p).expected, 0, 0, 0, false, []⟩]
      link := { s.link p with retry := (s.link p).retry + 1, replayRequestDue := some (s.now + us 20) } } := by
  unfold State.repeatReplayReq
  rw [retryAttempt_of_few few]
  simp only
  rw [if_pos (linkActive_iff.2 (by rw [link_setLink_self]; exact active))]
  cases p <;> rfl

theorem repeatReplayReq_of_many (many : 3 ≤ (s.link p).retry) : s.repeatReplayReq p = s.linkDown p .retryLimit := by
  unfold State.repeatReplayReq
  rw [retryAttempt_of_many many]
  exact if_neg (by rw [linkActive_linkDown]; exact Bool.false_ne_true)

theorem oldest_eq (l : Link) : l.oldest = match l.buffer with | [] => l.next | f :: _ => f.number := rfl

/-- Settles O44: a rewind is its acknowledgement progress, its resend position and a retry attempt; each timer is its
own step. -/
theorem retriesRewindOrEndTheSession : Obligations.RetriesRewindOrEndTheSession := by
  refine ⟨fun s p n receives => ?_, fun s p due => ?_⟩
  · intro l oldest j
    have named : oldest = (s.link p).oldest := (oldest_eq _).symm
    clear_value oldest
    subst named
    refine ⟨execReplayReq_of_beyond receives, fun within => ?_⟩
    intro kept retry restart
    obtain ⟨yes, no⟩ := unitAfter_spec s p (l.buffer.take j)
    refine ⟨_, yes, no, ?_⟩
    intro t
    have rewound : exec (.replayReq p n) s =
        .next (State.retryAttempt (t.setLink p { t.link p with retry := retry }) p).finish := by
      rw [execReplayReq_of_within receives within, rewind_eq]
      cases p <;> rfl
    have count : ((t.setLink p { t.link p with retry := retry }).link p).retry = retry := by rw [link_setLink_self]
    refine ⟨fun few => ?_, fun many => ?_⟩
    · rw [rewound, retryAttempt_of_few (by rw [count]; exact few)]
      cases p <;> rfl
    · rw [rewound, retryAttempt_of_many (by rw [count]; exact many)]
  · intro u
    refine ⟨execAcknowledgementTimerExpiry_of_due, fun running => ?_, fun running => ⟨fun few active => ?_, fun many active => ?_⟩⟩
    · intro t
      have replayed : exec (.replayTimerExpiry p) s = .next (t.retryAttempt p).finish := execReplayTimerExpiry_of_due running
      have count : (t.link p).retry = (s.link p).retry := by
        change (State.link (State.setLink _ p _) p).retry = _
        rw [link_setLink_self]
      refine ⟨fun few => ?_, fun many => ?_⟩
      · rw [replayed, retryAttempt_of_few (by rw [count]; exact few), count]
      · rw [replayed, retryAttempt_of_many (by rw [count]; exact many)]
    · rw [execReplayRequestTimerExpiry_of_due running, repeatReplayReq_of_few (by exact few) (by exact active)]
      rfl
    · rw [execReplayRequestTimerExpiry_of_due running, repeatReplayReq_of_many (by exact many)]
      rfl

/-! ### Headers (R139, R145) -/

theorem sendAck_eq (s : State) (p : Port) : s.sendAck p = s.setPort p { s.port p with
    link := if (s.link p).control.length < 12 then { s.link p with
        unacked := 0, ackDue := none
        memOut := (s.link p).memOut + (s.link p).memPend, memPend := 0
        mgmtOut := (s.link p).mgmtOut + (s.link p).mgmtPend, mgmtPend := 0 }
      else { s.link p with unacked := 0, ackDue := none }
    tx := (s.port p).tx ++ [⟨2, (s.link p).next, (s.link p).expected - 1,
      if (s.link p).control.length < 12 then (s.link p).memPend else 0,
      if (s.link p).control.length < 12 then (s.link p).mgmtPend else 0, (s.link p).ackValid, []⟩] } := by
  unfold State.sendAck Link.headerBuilt Link.memReturned Link.mgmtReturned Link.returnsCredits
  simp only [decide_eq_true_eq]
  cases p <;> rfl

theorem sendMessage_eq (s : State) (p : Port) (m : Message) (mem mgmt : Nat)
    (hmem : mem = if (s.link p).control.length < 12 then (s.link p).memPend else 0)
    (hmgmt : mgmt = if (s.link p).control.length < 12 then (s.link p).mgmtPend else 0) :
    s.sendMessage p m = s.setPort p { s.port p with
      link := { s.link p with
        unacked := 0
        ackDue := none
        memOut := (s.link p).memOut + mem
        memPend := (s.link p).memPend - mem
        mgmtOut := (s.link p).mgmtOut + mgmt
        mgmtPend := (s.link p).mgmtPend - mgmt
        next := (s.link p).next + 1
        sentCount := min 128 ((s.link p).sentCount + 1)
        buffer := (s.link p).buffer ++ [⟨(s.link p).next, m, mem, mgmt⟩]
        replayDue := if (s.link p).buffer = [] then some (s.now + us 20) else (s.link p).replayDue }
      tx := (s.port p).tx ++ [⟨1, (s.link p).next, (s.link p).expected - 1, mem, mgmt, (s.link p).ackValid, m.bytes⟩] } := by
  unfold State.sendMessage Link.headerBuilt Link.memReturned Link.mgmtReturned Link.returnsCredits
  simp only [decide_eq_true_eq, List.isEmpty_iff]
  by_cases room : (s.link p).control.length < 12
  · rw [if_pos room] at hmem hmgmt
    subst hmem hmgmt
    simp only [room, if_true, Nat.sub_self]
    cases p <;> rfl
  · rw [if_neg room] at hmem hmgmt
    subst hmem hmgmt
    simp only [room, if_false, Nat.sub_zero, Nat.add_zero]
    cases p <;> rfl

/-- Settles O45: the three headers the part builds. -/
theorem framesCarryAcknowledgementsAndCredits : Obligations.FramesCarryAcknowledgementsAndCredits := by
  refine ⟨fun s p => ⟨sendAck_eq s p, fun cls => ?_⟩, fun s p m => sendMessage_eq s p m _ _ rfl rfl⟩
  unfold State.acceptFrame
  simp only [link_setLink_self, accepted_unacked]
  exact if_congr (by omega) rfl rfl

end Sys2Proof.Machine.Frames

end

section
/-! The transmit side: the arbiter's choice, a resent frame, and the messages that replies and notices are built as. -/

namespace Sys2Proof.Machine.Transmit

open Sys2Proof.Machine.Accounts Sys2Proof.Machine.Upkeep Sys2Proof.Machine.Frames Sys2Proof.Machine.Transfer

variable {s t u : State} {p : Port}

/-! ### The outgoing arbiter (R147) -/

theorem mayTake_of (active : (s.link p).state = .active) (few : (s.link p).buffer.length < 32)
    (resend : (s.link p).resend = none) : s.mayTake p = true := by
  simp [State.mayTake, State.linkActive, active, few, resend]

theorem arbiterTake_of_control {m : Message} {rest : List Message} (h : (s.link p).control = m :: rest) :
    s.arbiterTake p = s.takeControl p m rest := by
  unfold State.arbiterTake
  rw [h]

theorem arbiterTake_of_reply {k : Nat} {rest : List Nat} {e : Entry} (control : (s.link p).control = [])
    (replies : (s.port p).replies = k :: rest) (he : s.entry k = some e) :
    s.arbiterTake p = s.takeReply p k e rest := by
  unfold State.arbiterTake
  rw [control]
  simp only
  rw [replies]
  simp only
  rw [he]

theorem arbiterTake_of_notice {i : Fin 6} {x : NoticeSlot} (control : (s.link p).control = [])
    (replies : (s.port p).replies = []) (notice : (s.link p).firstNotice = some (i, x)) :
    s.arbiterTake p = s.takeNotice p i x := by
  unfold State.arbiterTake
  rw [control]
  simp only
  rw [replies]
  simp only
  rw [notice]

theorem firstNotice_eq {l : Link} {i : Fin 6} {x : NoticeSlot} (full : l.notices[i] = some x)
    (lower : ∀ j : Fin 6, j < i → l.notices[j] = none) : l.firstNotice = some (i, x) :=
  Regions.findSome?_finRange_of_lowest (by rw [full]; rfl) fun j hj => by rw [lower j hj]; rfl

theorem takeReply_eq {k : Nat} {rest : List Nat} {e : Entry} {q : Port} (he : s.entry k = some e)
    (own : e.owner.port? = some q) : s.takeReply p k e rest = State.sendMessage (State.reevaluate (State.returnCredit
      { s.setPort p { s.port p with replies := rest } with table := Sparse.erase s.table k } q .memory)) p e.reply := by
  unfold State.takeReply
  simp only
  rw [freeSlotOf_port (x := e) (by rw [← he]; cases p <;> rfl) own]
  cases p <;> rfl

theorem execOutgoingArbiterTake_of (active : (s.link p).state = .active) (few : (s.link p).buffer.length < 32)
    (resend : (s.link p).resend = none) : exec (.outgoingArbiterTake p) s = .next (s.arbiterTake p).settle :=
  if_pos (mayTake_of active few resend)

/-- Settles O46: by the first of the three sources that holds something. -/
theorem arbiterTakesInOrder : Obligations.ArbiterTakesInOrder := by
  intro s p active few resend
  have taken := execOutgoingArbiterTake_of active few resend
  refine ⟨fun m rest control => ?_, fun k rest e q tag n o control replies he own => ?_,
    fun i x control replies full lower => ?_⟩
  · rw [taken, arbiterTake_of_control control]
    rfl
  · rw [taken, arbiterTake_of_reply control replies he, takeReply_eq he (by rw [own]; rfl)]
  · rw [taken, arbiterTake_of_notice control replies (firstNotice_eq full lower)]
    rfl

/-! ### Resending (R140) -/

theorem nextResend_append {before after : List BufferedFrame} {f : BufferedFrame}
    (other : ∀ g ∈ before, g.number ≠ f.number) :
    nextResend (before ++ f :: after) f.number = after.head?.map fun g => g.number := by
  induction before with
  | nil => exact if_pos rfl
  | cons g rest ih =>
    have skip : nextResend (g :: rest ++ f :: after) f.number = nextResend (rest ++ f :: after) f.number :=
      if_neg (other g List.mem_cons_self)
    rw [skip, ih fun x hx => other x (List.mem_cons_of_mem _ hx)]

theorem find?_resend {before after : List BufferedFrame} {f : BufferedFrame}
    (other : ∀ g ∈ before, g.number ≠ f.number) :
    ((before ++ f :: after).find? fun g => g.number = f.number) = some f := by
  rw [List.find?_append, List.find?_eq_none.2 fun g hg => by simpa using other g hg, List.find?_cons_of_pos (by simp)]
  rfl

theorem execFrameResend_of {n : Byte} {f : BufferedFrame} (resend : (s.link p).resend = some n)
    (found : ((s.link p).buffer.find? fun g => g.number = n) = some f) :
    exec (.frameResend p) s = .next (s.sendAgain p f) := by
  change execFrameResend p s = _
  unfold execFrameResend
  rw [resend]
  simp only
  rw [found]

/-- Settles O47: the frame named is the one found, and the position after it is the next frame's. -/
theorem resentFramesKeepTheirContents : Obligations.ResentFramesKeepTheirContents := by
  intro s p before after f resend buffer other l
  rw [execFrameResend_of resend (by rw [buffer]; exact find?_resend other)]
  unfold State.sendAgain
  simp only
  rw [show nextResend (s.link p).buffer f.number = after.head?.map fun g => g.number from
    buffer ▸ nextResend_append other]
  cases p <;> rfl

/-! ### Replies and notices (R158 to R160) -/

theorem testBit_foldl_or (positions : List Nat) (acc i : Nat) :
    (positions.foldl (fun acc p => acc ||| 2 ^ p) acc).testBit i = (acc.testBit i || decide (i ∈ positions)) := by
  induction positions generalizing acc with
  | nil => simp
  | cons p rest ih =>
    rw [List.foldl_cons, ih, Nat.testBit_or, Nat.testBit_two_pow, Bool.or_assoc, List.decide_mem_cons]
    congr 2
    exact decide_eq_decide.2 eq_comm

/-- Bit `i` of a set's byte stands for position `i`. -/
theorem testBit_positionByte (positions : List Nat) (i : Nat) :
    (positionByte positions).testBit i = decide (i ∈ positions) := by
  unfold positionByte
  rw [testBit_foldl_or, Nat.zero_testBit, Bool.false_or]

theorem positionByte_lt {positions : List Nat} (small : ∀ i ∈ positions, i < 8) : positionByte positions < 256 := by
  refine Nat.lt_pow_two_of_testBit (n := 8) _ fun i hi => ?_
  rw [testBit_positionByte]
  exact decide_eq_false fun h => absurd (small i h) (by omega)

/-- Settles O48: a reply by its kind, a notice by its kind, and a set bit by bit. -/
theorem repliesCarryTheResult : Obligations.RepliesCarryTheResult := by
  refine ⟨fun e p tag n own kind count first status => ?_, fun positions => ⟨testBit_positionByte positions, positionByte_lt⟩,
    fun n since => ?_, fun e p tag n st own status => ?_⟩
  · unfold Entry.reply Entry.replyKind Entry.replyExtra Entry.replyPayload
    rw [own, kind, count, first, status]
    rfl
  · cases n with
    | uncorrectable block source kind number records overflow => cases source <;> cases kind <;> rfl
    | refreshMissed bank missed => rfl
    | thermal reading entered => cases entered <;> rfl
    | fillDone first count => rfl
    | retainVote present => cases present <;> rfl
    | retainEntering => rfl
  · intro code
    have hcode : byteOf (statusCode (e.status.getD .ok)) = code := by
      rw [status]
      cases st <;> rfl
    unfold Entry.reply Entry.replyKind Entry.replyExtra Entry.replyPayload Entry.skipped
    refine ⟨fun kind => ?_, fun kind => ?_, fun masks kind => ?_, fun op offset a b kind => ?_⟩
    · simp only [own, kind, hcode, positionsOf_eq_class]
      rfl
    · simp only [own, kind, hcode]
      rfl
    · simp only [own, kind, hcode]
      rfl
    · simp only [own, kind, hcode]
      cases op <;> rfl

end Sys2Proof.Machine.Transmit

end

section
/-! Training, waking, the end of ENTERING, and the notice slots. -/

namespace Sys2Proof.Machine.Training

open Sys2Proof.Machine.Accounts Sys2Proof.Machine.Upkeep Sys2Proof.Machine.Frames

variable {s t u : State} {p : Port}

/-! ### A TRAIN by power state and link state (R135, Table 8-3) -/

theorem mgmt_abandonEntering (s : State) : s.abandonEntering.mgmt = s.mgmt := by
  unfold State.abandonEntering State.startSteps State.withdrawAll
  simp only
  rw [mgmt_removeVote, mgmt_removeVote]

theorem linkActive_answerTrain (s : State) (p : Port) (rev : Byte) :
    (s.answerTrain p rev).linkActive p = decide (rev = 1) := by
  unfold State.answerTrain
  by_cases h : rev = 1
  · simp only [h, decide_true, if_true]
    cases p <;> rfl
  · simp only [h, decide_false, Bool.false_eq_true, if_false]
    cases p <;> rfl

theorem trainNow_eq (s : State) (p : Port) (rev : Byte) : s.trainNow p rev =
    if s.power.state = .entering ∧ rev = 1 then (s.answerTrain p rev).abandonEntering else s.answerTrain p rev := by
  unfold State.trainNow
  simp only
  exact if_congr (by rw [power_answerTrain, linkActive_answerTrain, decide_eq_true_iff]) rfl rfl

theorem mgmt_trainNow (s : State) (p : Port) (rev : Byte) : (s.trainNow p rev).mgmt = s.mgmt := by
  rw [trainNow_eq]
  split
  · rw [mgmt_abandonEntering, mgmt_answerTrain]
  · rw [mgmt_answerTrain]

/-- A power state in which a TRAIN is answered at once. -/
def PowerUp (s : State) : Prop := s.power.state = .active ∨ s.power.state = .nap ∨ s.power.state = .entering

theorem execTrain_held (unit : s.mgmt.unit ≠ .restartDue) (held : s.power.state = .held) (rev : Byte) :
    exec (.train p rev) s = .next s := by
  change execTrain p rev s = _
  unfold execTrain
  rw [if_neg unit, held]

theorem execTrain_early (unit : s.mgmt.unit ≠ .restartDue) (early : s.power.state = .starting ∨ s.power.state = .waking)
    (link : (s.link p).state = .down ∨ (s.link p).state = .pending) (rev : Byte) :
    exec (.train p rev) s = .next (s.becomePending p rev) := by
  change execTrain p rev s = _
  unfold execTrain
  rw [if_neg unit]
  rcases early with power | power <;> rcases link with link | link <;> rw [power, link]

theorem execTrain_down (unit : s.mgmt.unit ≠ .restartDue) (up : PowerUp s) (link : (s.link p).state = .down) (rev : Byte) :
    exec (.train p rev) s = .next (s.trainNow p rev).finish := by
  change execTrain p rev s = _
  unfold execTrain
  rw [if_neg unit]
  rcases up with power | power | power <;> rw [power, link]

theorem execTrain_active (unit : s.mgmt.unit ≠ .restartDue) (up : PowerUp s) (link : (s.link p).state = .active)
    (rev : Byte) : exec (.train p rev) s = .next (((s.linkDown p .hostRetrain).drain).trainNow p rev).finish := by
  change execTrain p rev s = _
  unfold execTrain
  rw [if_neg unit]
  rcases up with power | power | power <;> rw [power, link]

theorem execTrain_sleep (unit : s.mgmt.unit ≠ .restartDue) (retain : s.power.state = .retain)
    (link : (s.link p).state = .sleep) (rev : Byte) : exec (.train p rev) s = .next (s.wake p rev).settle := by
  change execTrain p rev s = _
  unfold execTrain
  rw [if_neg unit, retain, link]

/-- Settles O49: by the rows of Table 8-3. -/
theorem trainIsTakenByState : Obligations.TrainIsTakenByState := by
  intro s p rev unit
  refine ⟨fun held => execTrain_held unit held rev, fun early link => execTrain_early unit early link rev,
    fun up link idle => ?_, fun up link => ?_⟩
  · rw [execTrain_down unit up link, finish_of_idle (freeUnitIdle_of_mgmt idle (mgmt_trainNow s p rev)), trainNow_eq]
  · intro u same idle
    rw [execTrain_active unit up link, finish_of_idle (freeUnitIdle_of_mgmt idle (mgmt_trainNow u p rev)), trainNow_eq, same]

/-! ### The answer (R136, Table 8-4) -/

theorem trainReplyBody_eq (s : State) (p : Port) (accepted : Bool) (mem mgmt : Nat) (power : PowerState) :
    s.trainReplyBody p accepted mem mgmt power = [if accepted then 1 else 0, byteOf (portCode p),
      if s.owner = p then 1 else 0, 1, byteOf (if accepted then mem else 0), byteOf (if accepted then mgmt else 0),
      0, 0, 0, 2, 0xF8, 0x03, 1, byteOf (powerCode power)] := by
  have size : leBytes 4 capacity = [0, 0, 0, 2] := by decide
  have rate : leBytes 2 1016 = [0xF8, 0x03] := by decide
  unfold State.trainReplyBody
  rw [size, rate]
  by_cases own : s.owner = p <;> cases accepted <;> simp [own, byteOf, flagOf]

theorem answerTrain_of_accepted (s : State) (p : Port) : s.answerTrain p 1 = s.setPort p { s.port p with
    link := { State.reset.portA.link with
      state := .active, memOut := 48 - s.heldByPort p, mgmtOut := 4 - s.mgmtHeld p }
    tx := (s.port p).tx ++ [⟨5, 0, 0, 0, 0, false, s.trainReplyBody p true (48 - s.heldByPort p) (4 - s.mgmtHeld p)
      s.power.state⟩] } := by
  cases p <;> rfl

theorem answerTrain_of_refused {rev : Byte} (refused : rev ≠ 1) (s : State) (p : Port) :
    s.answerTrain p rev = s.setPort p { s.port p with
      link := State.reset.portA.link
      tx := (s.port p).tx ++ [⟨5, 0, 0, 0, 0, false, s.trainReplyBody p false (48 - s.heldByPort p) (4 - s.mgmtHeld p)
        s.power.state⟩] } := by
  unfold State.answerTrain
  simp only [refused, decide_false, Bool.false_eq_true, if_false]
  cases p <;> rfl

theorem answerPending_of_pending {rev : Byte} (pending : (s.link p).state = .pending)
    (revision : (s.link p).pendingRevision = some rev) : s.answerPending p = s.answerTrain p rev := by
  unfold State.answerPending
  rw [pending, revision]

theorem answerPending_of_not (h : (s.link p).state ≠ .pending) : s.answerPending p = s := by
  unfold State.answerPending
  split
  · next pending _ => exact absurd pending h
  · rfl

theorem calTrigger_waking (waking : s.power.state = .waking) (idle : s.maint.cal = .idle) :
    s.calTrigger .long = { s with maint := { s.maint with cal := .pending .long } } := by
  have trigger : s.maint.takeTrigger .long = { s.maint with cal := .pending .long } := by
    unfold Maintenance.takeTrigger
    rw [idle]
  unfold State.calTrigger
  rw [if_neg (by rw [waking]; simp), trigger]
  simp only
  split
  · exact if_neg (by rw [waking]; exact nofun)
  · rfl

/-- The state that WAKING begins with, before the link is PENDING and the trigger is taken. -/
def wakingState (s : State) : State := { s with
  power := { s.power with state := .waking, timeBase := 0, tickDue := none }
  portA := { s.portA with link := State.reset.portA.link, vote := false }
  portB := { s.portB with link := State.reset.portB.link, vote := false } }

theorem both_cleared (s : State) (l : Link) :
    (((s.setLink .a l).setLink .b l).setVote .a false).setVote .b false =
      { s with portA := { s.portA with link := l, vote := false }, portB := { s.portB with link := l, vote := false } } := rfl

theorem becomePending_of_link {l : Link} (h : s.link p = l) (rev : Byte) :
    s.becomePending p rev = s.setLink p { l with state := .pending, pendingRevision := some rev } := by
  subst h
  rfl

theorem link_wakingState (s : State) (p : Port) : (wakingState s).link p = State.reset.portA.link := by cases p <;> rfl

theorem wake_wakingState (s : State) (p : Port) (rev : Byte) : s.wake p rev =
    ((wakingState s).setLink p
      { State.reset.portA.link with state := .pending, pendingRevision := some rev }).calTrigger .long := by
  unfold State.wake
  simp only
  rw [both_cleared]
  exact congrArg (fun v : State => v.calTrigger .long) (becomePending_of_link (link_wakingState s p) rev)

theorem wake_eq (idle : s.maint.cal = .idle) (rev : Byte) : s.wake p rev = State.setLink
    { wakingState s with maint := { s.maint with cal := .pending .long } } p
    { State.reset.portA.link with state := .pending, pendingRevision := some rev } := by
  rw [wake_wakingState, calTrigger_waking (by rw [power_setLink]; rfl) (by rw [maint_setLink]; exact idle), maint_setLink]
  cases p <;> rfl

theorem vote_raiseNotice (s : State) (p q : Port) (n : Notice) : ((s.raiseNotice p n).port q).vote = (s.port q).vote := by
  unfold State.raiseNotice
  split
  · cases p <;> cases q <;> rfl
  · rfl

/-- The votes withdrawn: each vote held goes with a notice on the other port. -/
theorem withdrawAll_eq (s : State) : s.withdrawAll =
    let v : State := if s.portA.vote = true then (s.setVote .a false).raiseNotice .b (.retainVote false) else s
    if s.portB.vote = true then (v.setVote .b false).raiseNotice .a (.retainVote false) else v := by
  unfold State.withdrawAll
  have kept : ((s.removeVote .a).port .b).vote = s.portB.vote := by
    unfold State.removeVote
    split
    · exact vote_raiseNotice (s.setVote .a false) .b .b _
    · rfl
  rw [removeVote_eq (s.removeVote .a) .b, kept]
  rfl

theorem touchesTable_withdrawAll (s : State) : TouchesTable s s.withdrawAll :=
  (touchesTable_removeVote s .a).trans (touchesTable_removeVote _ .b)

theorem abandonEntering_eq (s : State) : s.abandonEntering =
    { State.withdrawAll { s with power := { s.power with state := .active } } with
      maint := { s.maint with calTimerDue := some (s.now + ms 100) }
      scrub := { s.scrub with
        stepDue := if s.store.scrubPeriod = 0 then none else some (s.now + stepInterval s.store.scrubPeriod)
        pendingStep := false } } := by
  obtain ⟨_, _, _, h⟩ := touchesTable_withdrawAll { s with power := { s.power with state := .active } }
  unfold State.abandonEntering State.startSteps
  simp only
  rw [h]
  rfl

/-- Settles O50: the answer by its revision; waking and the end of ENTERING each in one step. -/
theorem trainIsAnswered : Obligations.TrainIsAnswered := by
  refine ⟨fun s p rev => ?_, fun s p rev => ⟨fun retain sleep unit idle => ?_, ?_⟩⟩
  · intro mem mgmt port own power
    have hport : byteOf (portCode p) = port := by cases p <;> rfl
    have hpower : byteOf (powerCode s.power.state) = power := by
      simp only [power]
      cases s.power.state <;> rfl
    refine ⟨fun accepted => ?_, fun refused => ?_, answerPending_of_pending, answerPending_of_not⟩
    · rw [accepted, answerTrain_of_accepted, trainReplyBody_eq, hport, hpower]
      rfl
    · rw [answerTrain_of_refused refused, trainReplyBody_eq, hport, hpower]
      rfl
  · intro u
    rw [execTrain_sleep unit retain sleep, wake_eq idle]
    rfl
  · intro u v w
    rw [abandonEntering_eq, withdrawAll_eq]

/-! ### Notice slots (R148) -/

theorem raiseNotice_of_not_active (h : (s.link p).state ≠ .active) (n : Notice) : s.raiseNotice p n = s :=
  if_neg fun k => h (linkActive_iff.1 (Bool.and_eq_true_iff.1 k).1)

theorem raiseNotice_of_masked {n : Notice} (three : noticeCode n ≠ 3) (five : noticeCode n ≠ 5)
    (masked : (s.store.noticeMask p).getLsbD (noticeCode n).val = false) : s.raiseNotice p n = s :=
  if_neg fun k => by
    have enabled := (Bool.and_eq_true_iff.1 k).2
    simp [State.noticeEnabled, three, five, masked] at enabled

theorem raiseNotice_of_enabled {n : Notice} (active : (s.link p).state = .active)
    (enabled : noticeCode n = 3 ∨ noticeCode n = 5 ∨ (s.store.noticeMask p).getLsbD (noticeCode n).val = true) :
    s.raiseNotice p n = s.setLink p { s.link p with
      notices := (s.link p).notices.set (noticeCode n) (some (NoticeSlot.take (s.link p).notices[noticeCode n] n)) } := by
  have on : s.noticeEnabled p n = true := by
    unfold State.noticeEnabled
    rcases enabled with h | h | h <;> simp [h]
  unfold State.raiseNotice
  exact if_pos (by rw [linkActive_iff.2 active, on]; rfl)

/-- What a port's link does with a notice, by the kind's own slot and mask bit. -/
theorem raiseNotice_cases (s : State) (p : Port) (n : Notice) :
    ((s.link p).state ≠ .active → s.raiseNotice p n = s) ∧
    (noticeCode n ≠ 3 → noticeCode n ≠ 5 → (s.store.noticeMask p).getLsbD (noticeCode n).val = false →
      s.raiseNotice p n = s) ∧
    ((s.link p).state = .active →
      (noticeCode n = 3 ∨ noticeCode n = 5 ∨ (s.store.noticeMask p).getLsbD (noticeCode n).val = true) →
      ((s.link p).notices[noticeCode n] = none → s.raiseNotice p n = s.setLink p { s.link p with
        notices := (s.link p).notices.set (noticeCode n) (some ⟨n, 0⟩) }) ∧
      (∀ held since, (s.link p).notices[noticeCode n] = some ⟨held, since⟩ →
        s.raiseNotice p n = s.setLink p { s.link p with
          notices := (s.link p).notices.set (noticeCode n) (some ⟨held, min 255 (since + 1)⟩) })) := by
  refine ⟨fun h => raiseNotice_of_not_active h n, raiseNotice_of_masked, fun active enabled => ⟨fun empty => ?_,
    fun held since full => ?_⟩⟩
  · rw [raiseNotice_of_enabled active enabled, empty]
    rfl
  · rw [raiseNotice_of_enabled active enabled, full]
    rfl

/-- Settles O52: each kind has its own slot and mask bit. -/
theorem noticesFillTheirSlots : Obligations.NoticesFillTheirSlots := by
  intro s p n
  cases n <;> exact raiseNotice_cases s p _

end Sys2Proof.Machine.Training

end

section
/-! Management requests: when they wait, and what each does when a free unit takes it at once. -/

namespace Sys2Proof.Machine.Requests

open Sys2Proof.Machine.Accounts Sys2Proof.Machine.Upkeep Sys2Proof.Machine.Frames

variable {s t u : State} {p : Port} {tag : Byte}

/-! ### The queue (R164) -/

theorem drain_of_not_free (h : s.mgmt.unit ≠ .free) : s.drain = s := drain_of_idle fun free => absurd free h

theorem drain_of_free {q : HeldRequest} {rest : List HeldRequest} (queue : s.mgmt.queue = q :: rest)
    (free : s.mgmt.unit = .free) :
    s.drain = drainFor rest.length (takeRequest q { s with mgmt := { s.mgmt with queue := rest } }) := by
  unfold State.drain
  rw [queue, List.length_cons]
  conv_lhs => unfold drainFor
  rw [free, queue]

theorem requestArrives_of_not_receives (h : s.receives p = false) (tag : Byte) (block : BitVec 32) (r : MgmtRequest) :
    s.requestArrives p tag block r = .next s := if_pos h

/-- The port's record after an acceptance that sends no ACK frame. -/
theorem accepting_of_few {r : PortRec} (few : r.link.unacked < 15) (now : Time) :
    r.accepting now (some .management) = { r with link := { r.link with
      expected := r.link.expected + 1, awaitingReplay := false, replayRequestDue := none, retry := 0, ackValid := true,
      unacked := r.link.unacked + 1, mgmtOut := r.link.mgmtOut - 1,
      ackDue := if r.link.unacked = 0 then some (r.link.ackDue.getD (now + us 1)) else r.link.ackDue } } := if_pos few

/-! ### A request taken at once -/

/-- The state with a request's frame accepted, before the request is taken. -/
def arrived (s : State) (p : Port) : State := s.setLink p ((s.link p).accepted s.now (some .management))

theorem run_of_ready (h : s.readyForRequest p tag) (block : BitVec 32) (r : MgmtRequest) :
    s.requestArrives p tag block r = .next (takeRequest ⟨p, tag, r⟩ (arrived s p)).settle := requestArrives_of_ready h block r

@[simp] theorem power_arrived (s : State) (p : Port) : (arrived s p).power = s.power := power_setLink ..
@[simp] theorem store_arrived (s : State) (p : Port) : (arrived s p).store = s.store := store_setLink ..
@[simp] theorem owner_arrived (s : State) (p : Port) : (arrived s p).owner = s.owner := owner_setLink ..
@[simp] theorem regions_arrived (s : State) (p : Port) : (arrived s p).regions = s.regions := regions_setLink ..
@[simp] theorem errors_arrived (s : State) (p : Port) : (arrived s p).errors = s.errors := errors_setLink ..
@[simp] theorem fill_arrived (s : State) (p : Port) : (arrived s p).fill = s.fill := fill_setLink ..

theorem vote_arrived (s : State) (p q : Port) : ((arrived s p).port q).vote = (s.port q).vote := vote_setLink ..

/-- A reply with no other effect. -/
theorem reply_arrived (h : s.readyForRequest p tag) (m : Message) : (arrived s p).replyAndLetGo p m = s.answered p m :=
  answered_eq h m

theorem fail_arrived (h : s.readyForRequest p tag) (kind : Nat) (why : Reason) :
    (arrived s p).answerFail p tag kind why = s.answered p (failReply tag kind (reasonCode why) 0) := answerFail_eq h tag kind why

theorem ok_arrived (h : s.readyForRequest p tag) (kind : Nat) (block extra : BitVec 32) (payload : List Byte) :
    (arrived s p).answerOk p tag kind block extra payload = s.answered p (okReply tag kind block extra payload) :=
  answerOk_eq h tag kind block extra payload

/-- A reply after an effect on `s` that left the port's link and the present alone. -/
theorem ok_of_effect (h : s.readyForRequest p tag)
    (effect : t = u.setLink p ((s.link p).accepted s.now (some .management))) (link : u.link p = s.link p)
    (now : u.now = s.now) (kind : Nat) (block extra : BitVec 32) (payload : List Byte) :
    t.answerOk p tag kind block extra payload = u.answered p (okReply tag kind block extra payload) := by
  subst effect
  exact answered_eq_of h link now _

/-- In ENTERING every request but STATUS is answered POWER. -/
theorem takeRequest_entering (h : s.readyForRequest p tag) (entering : s.power.state = .entering) (r : MgmtRequest)
    (other : ∀ clear, r ≠ .status clear) : takeRequest ⟨p, tag, r⟩ (arrived s p) =
      s.answered p (failReply tag (mgmtKindCode r) 7 0) := by
  have power : (arrived s p).power.state = .entering := by rw [power_arrived]; exact entering
  cases r with
  | status clear => exact absurd rfl (other clear)
  | _ => exact (if_pos power).trans (fail_arrived h _ .power)

theorem entering_eq (h : s.readyForRequest p tag) (entering : s.power.state = .entering) (block : BitVec 32)
    (r : MgmtRequest) (other : ∀ clear, r ≠ .status clear) : s.requestArrives p tag block r =
      .next (s.answered p (failReply tag (mgmtKindCode r) 7 0)).settle := by
  rw [run_of_ready h, takeRequest_entering h entering r other]

/-- A request that waits: the unit is stopped. -/
theorem requestArrives_waits (receives : s.receives p = true) (credit : (s.link p).mgmtOut ≠ 0)
    (new : s.tagInUse p tag = false) (busy : s.mgmt.unit ≠ .free) (block : BitVec 32) (r : MgmtRequest) :
    s.requestArrives p tag block r = .next (State.settle (State.setPort
      { s with mgmt := { s.mgmt with queue := s.mgmt.queue ++ [⟨p, tag, r⟩] } } p
      ((s.port p).accepting s.now (some .management)))) := by
  rw [requestArrives_of_receives receives, acceptMessage_management new credit]
  exact congrArg Host.Outcome.next (finish_of_idle fun free => absurd (by rw [mgmt_setPort] at free; exact free) busy)

theorem requestArrives_refused (receives : s.receives p = true) (credit : (s.link p).mgmtOut ≠ 0)
    (used : s.tagInUse p tag = true) (block : BitVec 32) (r : MgmtRequest) :
    s.requestArrives p tag block r = .next (State.refuseMessage
      (s.setPort p ((s.port p).accepting s.now (some .management))) p ⟨byteOf (mgmtKindCode r), tag, block⟩
      (some .management) .tagInUse).finish := by
  rw [requestArrives_of_receives receives, acceptMessage_of_fails (why := .tagInUse)
    (noCredit_eq_false (fun h => by cases h) (fun _ => credit)) (.inr (.inl ⟨.inr ⟨r, rfl⟩, used, rfl⟩))]
  rfl

theorem kindByte_eq (r : MgmtRequest) : byteOf (mgmtKindCode r) = match r with
    | .configGet _ => 16 | .configSet _ _ => 17 | .status _ => 18 | .regionGet _ => 19 | .regionSet .. => 20
    | .errorFetch => 21 | .errorClear _ => 22 | .fillStart .. => 23 | .fillAbort => 24 | .retainVote => 25
    | .retainWithdraw => 26 | .calibrate => 27 | .restart => 28 := by cases r <;> rfl

/-- Settles O53: the queue, the rows, the requests that are not taken at once, and ENTERING. -/
theorem managementRequestsWaitTheirTurn : Obligations.ManagementRequestsWaitTheirTurn := by
  refine ⟨fun s => ⟨finish_of_idle, fun q rest => drain_of_free, drain_of_not_free⟩, fun s p tag => ?_,
    fun s p tag block r => ?_, fun s p tag ready entering => ?_⟩
  · exact ⟨fun _ => rfl, fun _ _ => rfl, fun _ => rfl, fun _ => rfl, fun _ _ _ _ _ _ => rfl, rfl, fun _ => rfl,
      fun _ _ _ => rfl, rfl, rfl, rfl, rfl, rfl⟩
  · intro l kind accepted
    refine ⟨fun closed => requestArrives_of_not_receives closed tag block r, fun receives none => ?_,
      fun receives credit few new busy => ?_, fun receives credit few used room idle => ?_⟩
    · have exhausted : (s.link p).noCredit (Parsed.management r).creditClass = true := decide_eq_true none
      rw [requestArrives_of_receives receives, acceptMessage_of_no_credit exhausted]
      rfl
    · rw [requestArrives_waits receives credit new busy, accepting_of_few few]
      cases p <;> rfl
    · have hkind : byteOf (mgmtKindCode r) = kind := kindByte_eq r
      rw [requestArrives_refused receives credit used, accepting_of_few few, refuseMessage_of_room
        (by rw [link_setPort_self]; exact active_of_receives receives) (by rw [link_setPort_self]; exact room),
        finish_of_idle (freeUnitIdle_of_mgmt idle (by rw [mgmt_setLink, mgmt_setPort])), hkind, link_setPort_self, now_setPort]
      refine congrArg (fun w : State => Host.Outcome.next w.settle) ?_
      have due : (if l.unacked = 0 then some (l.ackDue.getD (s.now + us 1)) else l.ackDue).getD (s.now + us 1) =
          l.ackDue.getD (s.now + us 1) := by
        split <;> rfl
      simp only [show (s.port p).link = l from rfl, due]
      cases p <;> rfl
  · have run := fun block r other => entering_eq ready entering block r other
    exact ⟨fun key => run 0 (.configGet key) nofun, fun key v => run 0 (.configSet key v) nofun,
      fun slot => run 0 (.regionGet slot) nofun,
      fun slot first count en a b => run first (.regionSet slot first count en a b) nofun, run 0 .errorFetch nofun,
      fun n => run n (.errorClear n) nofun, fun first count pattern => run first (.fillStart first count pattern) nofun,
      run 0 .fillAbort nofun, run 0 .retainVote nofun, run 0 .retainWithdraw nofun, run 0 .calibrate nofun,
      run 0 .restart nofun⟩

/-! ### The configuration store (R168, R169) -/

theorem isKey_iff {n : Nat} : isKey n = true ↔ 1 ≤ n ∧ n ≤ 9 := decide_eq_true_iff

theorem isKey_eq_false {n : Nat} (h : n = 0 ∨ 10 ≤ n) : isKey n = false :=
  Bool.eq_false_of_not_eq_true fun k => by have := isKey_iff.1 k; omega

theorem configGet_of_key (h : s.readyForRequest p tag) (awake : s.power.state ≠ .entering) {key w : BitVec 32} {n : Nat}
    (isKey : isKey key.toNat = true) (value : s.store.value key.toNat = some w) (carried : w.toNat = n % 2 ^ 32) :
    exec (.configGet p tag key) s = .next (s.answered p (okReply tag 16 0 key (leBytes 4 (n % 2 ^ 32)))).settle := by
  have taken : takeConfigGet p tag key (arrived s p) = (arrived s p).answerKey p tag 16 key :=
    (if_neg (by rw [power_arrived]; exact awake)).trans (if_neg (by rw [isKey]; exact nofun))
  refine (run_of_ready h 0 (.configGet key)).trans (congrArg (fun v : State => Host.Outcome.next v.settle) ?_)
  refine taken.trans ((ok_arrived h 16 0 key _).trans ?_)
  rw [store_arrived, value, Option.getD_some, carried]

theorem configGet_of_no_key (h : s.readyForRequest p tag) (awake : s.power.state ≠ .entering) {key : BitVec 32}
    (noKey : isKey key.toNat = false) :
    exec (.configGet p tag key) s = .next (s.answered p (failReply tag 16 10 key)).settle := by
  have taken : takeConfigGet p tag key (arrived s p) = (arrived s p).answerBadKey p tag 16 key :=
    (if_neg (by rw [power_arrived]; exact awake)).trans (if_pos noKey)
  exact (run_of_ready h 0 (.configGet key)).trans (congrArg (fun v : State => Host.Outcome.next v.settle)
    (taken.trans (reply_arrived h _)))

/-- Settles O54: key by key. -/
theorem configGetAnswersTheKey : Obligations.ConfigGetAnswersTheKey := by
  intro s p tag key h awake rights ok
  have mask : ∀ m : BitVec 32, m.toNat = m.toNat % 2 ^ 32 := fun m => (Nat.mod_eq_of_lt m.isLt).symm
  have code : ∀ r : Rights, (BitVec.ofNat 32 (rightsCode r)).toNat = rights r % 2 ^ 32 := fun r => by cases r <;> rfl
  refine ⟨fun k => ?_, fun k => ?_, fun k => ?_, fun k => ?_, fun k => ?_, fun k => ?_, fun k => ?_, fun k => ?_,
    fun k => ?_, fun k => configGet_of_no_key h awake (isKey_eq_false k)⟩ <;> subst k
  · exact configGet_of_key h awake (by decide) rfl rfl
  · exact configGet_of_key h awake (by decide) rfl rfl
  · exact configGet_of_key h awake (by decide) rfl rfl
  · exact configGet_of_key h awake (by decide) rfl rfl
  · exact configGet_of_key h awake (by decide) rfl (by cases s.store.correctOnRead <;> rfl)
  · exact configGet_of_key h awake (by decide) rfl (mask _)
  · exact configGet_of_key h awake (by decide) rfl (mask _)
  · exact configGet_of_key h awake (by decide) rfl (code _)
  · exact configGet_of_key h awake (by decide) rfl (code _)

theorem store_applyKey (s : State) (n : Nat) : (s.applyKey n).store = s.store := by
  unfold State.applyKey
  split
  · rfl
  · split <;> rfl

theorem link_applyKey (s : State) (n : Nat) (q : Port) : (s.applyKey n).link q = s.link q := by
  unfold State.applyKey
  split
  · cases q <;> rfl
  · split
    · cases q <;> rfl
    · rfl

theorem now_applyKey (s : State) (n : Nat) : (s.applyKey n).now = s.now := by
  unfold State.applyKey
  split
  · rfl
  · split <;> rfl

theorem applyKey_setLink (s : State) (p : Port) (l : Link) (n : Nat) :
    (s.setLink p l).applyKey n = (s.applyKey n).setLink p l := by
  unfold State.applyKey
  rw [power_setLink]
  split
  · cases p <;> rfl
  · split
    · cases p <;> rfl
    · rfl

/-- A value stored: the key's effect, and OK with the value as it now stands. -/
theorem configSet_stored (h : s.readyForRequest p tag) (awake : s.power.state ≠ .entering) {key v w : BitVec 32}
    (isKey : isKey key.toNat = true) (may : isOwnerKey key.toNat = true → p = s.owner) {c : Store}
    (stored : s.store.store key.toNat v = some c) (value : c.value key.toNat = some w) :
    exec (.configSet p tag key v) s = .next ((State.applyKey { s with store := c } key.toNat).answered p
      (okReply tag 17 0 key (leBytes 4 w.toNat))).settle := by
  have taken : takeConfigSet p tag key v (arrived s p) =
      (State.applyKey { arrived s p with store := c } key.toNat).answerKey p tag 17 key := by
    unfold takeConfigSet
    rw [if_neg (by rw [power_arrived]; exact awake), if_neg (by rw [isKey]; exact nofun),
      if_neg (fun k => k.2 (by rw [owner_arrived]; exact may k.1)), store_arrived, stored]
  have effect : State.applyKey { arrived s p with store := c } key.toNat =
      (State.applyKey { s with store := c } key.toNat).setLink p ((s.link p).accepted s.now (some .management)) :=
    (congrArg (fun v : State => v.applyKey key.toNat) (by cases p <;> rfl)).trans (applyKey_setLink _ _ _ _)
  refine (run_of_ready h 0 (.configSet key v)).trans (congrArg (fun v : State => Host.Outcome.next v.settle) ?_)
  refine taken.trans ((ok_of_effect h effect ((link_applyKey ..).trans (by cases p <;> rfl)) (now_applyKey ..) 17 0 key _).trans ?_)
  rw [store_applyKey]
  simp only
  rw [value, Option.getD_some]

theorem configSet_bad (h : s.readyForRequest p tag) (awake : s.power.state ≠ .entering) {key v : BitVec 32}
    (may : isOwnerKey key.toNat = true → p = s.owner) (bad : isKey key.toNat = false ∨ s.store.store key.toNat v = none) :
    exec (.configSet p tag key v) s = .next (s.answered p (failReply tag 17 10 key)).settle := by
  have taken : takeConfigSet p tag key v (arrived s p) = (arrived s p).answerBadKey p tag 17 key := by
    unfold takeConfigSet
    rw [if_neg (by rw [power_arrived]; exact awake)]
    split
    · rfl
    · next key =>
      rw [if_neg (fun k => k.2 (by rw [owner_arrived]; exact may k.1)), store_arrived, bad.resolve_left key]
  exact (run_of_ready h 0 (.configSet key v)).trans (congrArg (fun v : State => Host.Outcome.next v.settle)
    (taken.trans (reply_arrived h _)))

theorem configSet_not_owner (h : s.readyForRequest p tag) (awake : s.power.state ≠ .entering) {key v : BitVec 32}
    (owned : isOwnerKey key.toNat = true) (other : p ≠ s.owner) :
    exec (.configSet p tag key v) s = .next (s.answered p (failReply tag 17 9 0)).settle := by
  have range : isKey key.toNat = true := by
    have := of_decide_eq_true owned
    exact isKey_iff.2 (by omega)
  have taken : takeConfigSet p tag key v (arrived s p) = (arrived s p).answerFail p tag 17 .notOwner := by
    unfold takeConfigSet
    rw [if_neg (by rw [power_arrived]; exact awake), if_neg (by rw [range]; exact nofun),
      if_pos ⟨owned, by rw [owner_arrived]; exact other⟩]
  exact (run_of_ready h 0 (.configSet key v)).trans (congrArg (fun v : State => Host.Outcome.next v.settle)
    (taken.trans (fail_arrived h 17 .notOwner)))

/-- A range check on a value: stored where it passes, BAD-VALUE where it fails. -/
theorem configSet_ranged (h : s.readyForRequest p tag) (awake : s.power.state ≠ .entering) {key v w : BitVec 32}
    (range : isKey key.toNat = true) (may : isOwnerKey key.toNat = true → p = s.owner) {ok : Prop} [Decidable ok] {c : Store}
    (stored : s.store.store key.toNat v = if ok then some c else none) (value : ok → c.value key.toNat = some w) :
    exec (.configSet p tag key v) s =
      if ok then .next ((State.applyKey { s with store := c } key.toNat).answered p
        (okReply tag 17 0 key (leBytes 4 w.toNat))).settle
      else .next (s.answered p (failReply tag 17 10 key)).settle := by
  by_cases k : ok
  · rw [if_pos k]
    exact configSet_stored h awake range may (stored.trans (if_pos k)) (value k)
  · rw [if_neg k]
    exact configSet_bad h awake may (.inr (stored.trans (if_neg k)))

/-- The rights a code stands for, with the code that is no rights left to the range check. -/
def rightsFor (n : Nat) : Rights := if n = 0 then .none else if n = 1 then .read else .readWrite

theorem rightsOf_eq (n : Nat) : rightsOf n = if n ≤ 2 then some (rightsFor n) else none := by
  rcases n with _ | _ | _ | n
  · rfl
  · rfl
  · rfl
  · exact (if_neg (by omega)).symm

theorem rightsCode_rightsFor {n : Nat} (h : n ≤ 2) : rightsCode (rightsFor n) = n := by
  rcases n with _ | _ | _ | n
  · rfl
  · rfl
  · rfl
  · omega

theorem ofNat_toNat_some (v : BitVec 32) : some (BitVec.ofNat 32 v.toNat) = some v := by rw [BitVec.ofNat_toNat, BitVec.setWidth_eq]

theorem applyKey_scrubPeriod (s : State) : s.applyKey 4 = { s with
    scrub := if s.power.state = .active ∨ s.power.state = .nap then { s.scrub with
        stepDue := if s.store.scrubPeriod = 0 then none else some (s.now + stepInterval s.store.scrubPeriod)
        pendingStep := false }
      else s.scrub } := by
  unfold State.applyKey State.startSteps
  rw [if_neg (by decide)]
  by_cases running : s.power.state = .active ∨ s.power.state = .nap
  · rw [if_pos ⟨rfl, running⟩, if_pos running]
  · rw [if_neg (fun k => running k.2), if_neg running]

/-- A key of default rights, which the owner alone may set. -/
theorem configSet_rights (h : s.readyForRequest p tag) (awake : s.power.state ≠ .entering) {key v : BitVec 32}
    (range : isKey key.toNat = true) (owned : isOwnerKey key.toNat = true) {f : Rights → Store}
    (stored : s.store.store key.toNat v = (rightsOf v.toNat).map f)
    (value : ∀ r, (f r).value key.toNat = some (BitVec.ofNat 32 (rightsCode r))) :
    exec (.configSet p tag key v) s =
      if p ≠ s.owner then .next (s.answered p (failReply tag 17 9 0)).settle
      else if v.toNat ≤ 2 then .next ((State.applyKey { s with store := f (rightsFor v.toNat) } key.toNat).answered p
        (okReply tag 17 0 key (leBytes 4 v.toNat))).settle
      else .next (s.answered p (failReply tag 17 10 key)).settle := by
  by_cases own : p = s.owner
  · rw [if_neg (by simpa using own)]
    refine configSet_ranged h awake range (fun _ => own) (stored.trans ?_) fun ok => ?_
    · rw [rightsOf_eq]
      split <;> rfl
    · rw [value, rightsCode_rightsFor ok, ofNat_toNat_some]
  · rw [if_pos own]
    exact configSet_not_owner h awake owned own

/-- Settles O55: key by key, each by its range. -/
theorem configSetStoresTheValue : Obligations.ConfigSetStoresTheValue := by
  intro s p tag key v h awake n run ok bad notOwner rights
  have free : ∀ {k : Nat}, isOwnerKey k = false → isOwnerKey k = true → p = s.owner := fun no yes => by
    rw [no] at yes
    cases yes
  refine ⟨fun k => ?_, fun k => ?_, fun k => ?_, fun k => ?_, fun k => ?_, fun k => ?_, fun k => ?_, fun k => ?_,
    fun k => ?_, fun k => ?_⟩
  · subst k
    exact configSet_ranged h awake (by decide) (free (by decide)) rfl fun _ => ofNat_toNat_some v
  · subst k
    exact configSet_ranged h awake (by decide) (free (by decide)) rfl fun _ => ofNat_toNat_some v
  · subst k
    exact configSet_ranged (key := 3) (v := v) h awake (by decide) (free (by decide)) rfl fun _ => ofNat_toNat_some v
  · subst k
    refine (configSet_ranged (key := 4) (v := v) h awake (by decide) (free (by decide)) rfl
      fun _ => ofNat_toNat_some v).trans ?_
    exact if_congr Iff.rfl (congrArg (fun t : State => Host.Outcome.next (State.settle (t.answered p _)))
      (applyKey_scrubPeriod _)) rfl
  · subst k
    refine configSet_ranged h awake (by decide) (free (by decide)) rfl fun small => ?_
    have one : (if decide (v.toNat = 1) = true then (1 : BitVec 32) else 0) = v := by
      refine BitVec.eq_of_toNat_eq ?_
      rcases (Nat.le_one_iff_eq_zero_or_eq_one.1 small : v.toNat = 0 ∨ v.toNat = 1) with e | e <;> rw [e] <;> rfl
    exact congrArg some one
  · subst k
    exact configSet_ranged h awake (by decide) (free (by decide)) rfl fun _ => rfl
  · subst k
    exact configSet_ranged h awake (by decide) (free (by decide)) rfl fun _ => rfl
  · subst k
    exact configSet_rights (f := fun r => { s.store with defaultRightsA := r }) h awake (by decide) (by decide) rfl fun r => rfl
  · subst k
    exact configSet_rights (f := fun r => { s.store with defaultRightsB := r }) h awake (by decide) (by decide) rfl fun r => rfl
  · refine configSet_bad h awake (free (decide_eq_false ?_)) (.inl (isKey_eq_false k))
    omega

end Sys2Proof.Machine.Requests

end

section
/-! Management requests: STATUS, the regions, the error records, the votes, CALIBRATE and RESTART. -/

namespace Sys2Proof.Machine.Requests

open Sys2Proof.Machine.Accounts Sys2Proof.Machine.Upkeep Sys2Proof.Machine.Frames Sys2Proof.Machine.Training

variable {s t u : State} {p : Port} {tag : Byte}

/-! ### STATUS (R170, R171) -/

theorem statusReport_arrived (s : State) (p : Port) (cleared : Bool) :
    (arrived s p).statusReport cleared = s.statusReport cleared := by
  have state : ∀ q, ((arrived s p).link q).state = (s.link q).state := fun q => by
    unfold arrived
    by_cases e : q = p
    · subst e
      rw [link_setLink_self, accepted_state]
    · rw [link_setLink_of_ne _ _ _ _ e]
  have head : (arrived s p).statusHead = s.statusHead := by
    unfold State.statusHead
    rw [state, state]
    cases p <;> rfl
  unfold State.statusReport
  rw [head]
  cases p <;> rfl

theorem length_statusReport (s : State) (cleared : Bool) : (s.statusReport cleared).length = 100 := by
  unfold State.statusReport State.statusHead State.statusMaintenance State.statusErrors State.statusFill
  cases s.fill <;> rfl

/-- Offsets 83 to 99: the scrub, the nap entries, the time base, the cleared flag. -/
def statusTail (s : State) (cleared : Bool) : List Byte :=
  leBytes 4 s.scrub.cursor ++ leBytes 2 s.scrub.passes ++ leBytes 4 s.power.napCount ++
    leBytes 4 s.power.timeBase.toNat ++ [byteOf (flagOf cleared), 0, 0]

theorem statusReport_sections (s : State) (cleared : Bool) : s.statusReport cleared =
    s.statusHead ++ (s.statusMaintenance ++ (s.statusErrors ++ (s.statusFill ++ statusTail s cleared))) := by
  unfold State.statusReport statusTail
  simp only [List.append_assoc]

theorem length_statusFill (s : State) : s.statusFill.length = 14 := by
  unfold State.statusFill
  cases s.fill <;> rfl

theorem length_statusMaintenance (s : State) : s.statusMaintenance.length = 26 := rfl

theorem length_statusErrors (s : State) : s.statusErrors.length = 35 := rfl

theorem statusFill_of_none (h : s.fill = none) : s.statusFill = List.replicate 14 0 := by
  unfold State.statusFill
  rw [h]

theorem statusFill_of_some {f : Fill} (h : s.fill = some f) : s.statusFill =
    [byteOf (if f.aborting then 2 else 1), byteOf (portCode f.port)] ++ leBytes 4 f.first ++ leBytes 4 f.count ++
      leBytes 4 f.cursor := by
  unfold State.statusFill
  rw [h]

/-- A byte of a section that begins at offset `n`. -/
theorem getD_section {pre mid post : List Byte} {n : Nat} (length : pre.length = n) {i : Nat} (within : i < mid.length) :
    (pre ++ (mid ++ post)).getD (n + i) 0#8 = mid.getD i 0#8 := by
  subst length
  rw [List.getD_append_right _ _ _ _ (Nat.le_add_right ..), Nat.add_sub_cancel_left, List.getD_append _ _ _ _ within]

/-- A field of a section that begins at offset `n`. -/
theorem slice_section {pre mid post : List Byte} {n : Nat} (length : pre.length = n) {i size : Nat}
    (within : i + size ≤ mid.length) :
    ((pre ++ (mid ++ post)).drop (n + i)).take size = (mid.drop i).take size := by
  subst length
  rw [List.drop_length_add_append, List.drop_append_of_le_length (by omega),
    List.take_append_of_le_length (by rw [List.length_drop]; omega)]

variable {cleared : Bool} {i size : Nat}

theorem getD_report_head (within : i < 8) : (s.statusReport cleared).getD i 0#8 = s.statusHead.getD i 0#8 := by
  rw [statusReport_sections, List.getD_append _ _ _ _ within]

theorem getD_report_maintenance (within : i < 26) :
    (s.statusReport cleared).getD (8 + i) 0#8 = s.statusMaintenance.getD i 0#8 := by
  rw [statusReport_sections]
  exact getD_section rfl within

theorem slice_report_maintenance (within : i + size ≤ 26) :
    ((s.statusReport cleared).drop (8 + i)).take size = (s.statusMaintenance.drop i).take size := by
  rw [statusReport_sections]
  exact slice_section (n := 8) (mid := s.statusMaintenance) (by exact rfl) (by rw [length_statusMaintenance]; exact within)

theorem getD_report_errors (within : i < 35) :
    (s.statusReport cleared).getD (34 + i) 0#8 = s.statusErrors.getD i 0#8 := by
  rw [statusReport_sections, ← List.append_assoc]
  exact getD_section rfl within

theorem slice_report_errors (within : i + size ≤ 35) :
    ((s.statusReport cleared).drop (34 + i)).take size = (s.statusErrors.drop i).take size := by
  rw [statusReport_sections, ← List.append_assoc]
  exact slice_section (n := 34) (mid := s.statusErrors) (by exact rfl) (by rw [length_statusErrors]; exact within)

theorem getD_report_fill (within : i < 14) :
    (s.statusReport cleared).getD (69 + i) 0#8 = s.statusFill.getD i 0#8 := by
  rw [statusReport_sections, ← List.append_assoc, ← List.append_assoc]
  exact getD_section rfl (by rw [length_statusFill]; exact within)

theorem slice_report_fill (within : i + size ≤ 14) :
    ((s.statusReport cleared).drop (69 + i)).take size = (s.statusFill.drop i).take size := by
  rw [statusReport_sections, ← List.append_assoc, ← List.append_assoc]
  exact slice_section (n := 69) (mid := s.statusFill) (by exact rfl)
    (by rw [length_statusFill]; exact within)

theorem length_before_tail (s : State) :
    (s.statusHead ++ s.statusMaintenance ++ s.statusErrors ++ s.statusFill).length = 83 := by
  rw [List.length_append, length_statusFill]
  rfl

theorem report_eq_tail (s : State) (cleared : Bool) : s.statusReport cleared =
    (s.statusHead ++ s.statusMaintenance ++ s.statusErrors ++ s.statusFill) ++ (statusTail s cleared ++ []) := by
  rw [statusReport_sections]
  simp only [List.append_assoc, List.append_nil]

theorem getD_report_tail (within : i < 17) :
    (s.statusReport cleared).getD (83 + i) 0#8 = (statusTail s cleared).getD i 0#8 := by
  rw [report_eq_tail]
  exact getD_section (length_before_tail s) within

theorem slice_report_tail (within : i + size ≤ 17) :
    ((s.statusReport cleared).drop (83 + i)).take size = ((statusTail s cleared).drop i).take size := by
  rw [report_eq_tail]
  exact slice_section (length_before_tail s) within

/-- The two-byte field of element `i` in a row of two-byte fields. -/
theorem take_drop_flatMap {n : Nat} {f : Fin n → List Byte} (two : ∀ i, (f i).length = 2) (i : Fin n) (post : List Byte) :
    ((((List.finRange n).flatMap f ++ post).drop (2 * i.val)).take 2) = f i := by
  obtain ⟨before, after, split⟩ := List.append_of_mem (List.mem_finRange i)
  have place : before.length = i.val := by
    have at_ : (List.finRange n)[before.length]? = some i := by rw [split]; simp
    rw [List.getElem?_eq_some_iff] at at_
    obtain ⟨_, at_⟩ := at_
    simpa using congrArg Fin.val at_
  have length : (before.flatMap f).length = 2 * i.val := by
    rw [List.length_flatMap, ← place, List.map_congr_left (g := fun _ => 2) fun x _ => two x]
    simp [Nat.mul_comm]
  rw [split, List.flatMap_append, List.append_assoc, List.flatMap_cons, List.append_assoc, ← length,
    List.drop_left, List.take_left' (two i)]

theorem getD_map_finRange {n : Nat} (f : Fin n → Byte) (i : Fin n) (post : List Byte) :
    (((List.finRange n).map f) ++ post).getD i.val 0#8 = f i := by
  rw [List.getD_append _ _ _ _ (by simp), List.getD_eq_getElem _ _ (by simp)]
  simp

theorem debt_maintenance (s : State) (b : Fin 16) : s.statusMaintenance.getD b.val 0#8 = byteOf (s.bank b).debt := by
  unfold State.statusMaintenance allBanks
  simp only [List.append_assoc]
  exact getD_map_finRange (fun b => byteOf (s.bank b).debt) b _

theorem corrected_errors (s : State) (b : Fin 16) :
    (s.statusErrors.drop (2 * b.val)).take 2 = leBytes 2 (s.bank b).corrected := by
  unfold State.statusErrors allBanks
  simp only [List.append_assoc]
  exact take_drop_flatMap (f := fun b => leBytes 2 (s.bank b).corrected) (fun _ => rfl) b _

theorem clearCounts_eq (s : State) : s.clearCounts = { s with
    maint := { s.maint with missed := 0 }
    errors := { s.errors with overflow := 0 }
    power := { s.power with napCount := 0 }
    banks := s.clearCounts.banks } := by
  unfold State.clearCounts State.mapBanks
  rfl

theorem bank_clearCounts (s : State) (b : Fin 16) : s.clearCounts.bank b = { s.bank b with corrected := 0 } := by
  unfold State.clearCounts
  rw [bank_mapBanks]
  rfl

theorem status_ready (h : s.readyForRequest p tag) :
    exec (.status p tag false) s = .next (s.answered p (okReply tag 18 0 0 (s.statusReport false))).settle ∧
      exec (.status p tag true) s = .next (s.clearCounts.answered p (okReply tag 18 0 0 (s.statusReport true))).settle := by
  refine ⟨(run_of_ready h 0 (.status false)).trans (congrArg (fun v : State => Host.Outcome.next v.settle) ?_),
    (run_of_ready h 0 (.status true)).trans (congrArg (fun v : State => Host.Outcome.next v.settle) ?_)⟩
  · rw [← statusReport_arrived s p]
    exact ok_arrived h 18 0 0 _
  · rw [← statusReport_arrived s p]
    refine ok_of_effect (t := (arrived s p).clearCounts) (u := s.clearCounts) h ?_ ?_ ?_ 18 0 0 _
    · cases p <;> rfl
    · cases p <;> rfl
    · rfl

/-- Settles O56: the two runs, and the report section by section. -/
theorem statusReportsAndClears : Obligations.StatusReportsAndClears := by
  refine ⟨fun s p tag h => ?_, fun s cleared => ?_⟩
  · obtain ⟨plain, clear⟩ := status_ready h
    exact ⟨length_statusReport s false, length_statusReport s true, plain, s.clearCounts, clearCounts_eq s,
      bank_clearCounts s, clear⟩
  · intro byte num
    have four : ∀ v, leNat (leBytes 4 v) = v % 2 ^ 32 := leNat_leBytes 4
    have two : ∀ v, leNat (leBytes 2 v) = v % 65536 := leNat_leBytes 2
    refine ⟨?_, ?_, ?_, ?_, ?_, ?_, ?_, ?_, fun b => ?_, ?_, ?_, ?_, ?_, ?_, ?_, fun b => ?_, ?_, ?_, fun none i low high => ?_,
      fun f hf => ⟨?_, ?_, ?_, ?_, ?_⟩, ?_, ?_, ?_, ?_, ?_, ?_, ?_⟩
    · refine (getD_report_head (i := 0) (by decide)).trans ?_
      cases hs : s.power.state <;> simp [State.statusHead, hs, powerCode, byteOf]
    · refine (getD_report_head (i := 1) (by decide)).trans ?_
      cases hs : (s.link .a).state <;> simp [State.statusHead, hs, linkCode, byteOf]
    · refine (getD_report_head (i := 2) (by decide)).trans ?_
      cases hs : (s.link .b).state <;> simp [State.statusHead, hs, linkCode, byteOf]
    · refine (getD_report_head (i := 3) (by decide)).trans ?_
      cases ha : s.portA.vote <;> cases hb : s.portB.vote <;> simp [State.statusHead, ha, hb, flagOf, byteOf]
    · refine (getD_report_head (i := 4) (by decide)).trans ?_
      cases ho : s.owner <;> simp [State.statusHead, ho, portCode, byteOf]
    · exact getD_report_head (i := 5) (by decide)
    · exact getD_report_head (i := 6) (by decide)
    · exact getD_report_head (i := 7) (by decide)
    · exact (getD_report_maintenance (by omega)).trans (debt_maintenance s b)
    · exact (congrArg leNat (slice_report_maintenance (i := 16) (by decide))).trans (two _)
    · refine (getD_report_maintenance (i := 18) (by decide)).trans ?_
      change byteOf (flagOf s.maint.hot) = _
      cases s.maint.hot <;> rfl
    · exact getD_report_maintenance (i := 19) (by decide)
    · refine (getD_report_maintenance (i := 20) (by decide)).trans ?_
      change byteOf (calCode s.maint.cal) = _
      rcases s.maint.cal with _ | (_ | _) | (_ | _) <;> rfl
    · refine (getD_report_maintenance (i := 21) (by decide)).trans ?_
      change byteOf (followOnCode s.maint.followOn) = _
      rcases s.maint.followOn with _ | _ | _ <;> rfl
    · refine (congrArg leNat (slice_report_maintenance (i := 22) (by decide))).trans ((four _).trans ?_)
      exact Nat.mod_eq_of_lt (BitVec.isLt _)
    · refine (congrArg leNat (slice_report_errors (i := 2 * b.val) (size := 2) (by omega))).trans ?_
      rw [corrected_errors]
      exact two _
    · exact getD_report_errors (i := 32) (by decide)
    · exact (congrArg leNat (slice_report_errors (i := 33) (by decide))).trans (two _)
    · obtain ⟨j, rfl⟩ := Nat.exists_eq_add_of_le low
      refine (getD_report_fill (by omega)).trans ?_
      rw [statusFill_of_none none]
      exact List.getD_replicate _ (by omega)
    · refine (getD_report_fill (i := 0) (by decide)).trans ?_
      rw [statusFill_of_some hf]
      change byteOf (if f.aborting = true then 2 else 1) = _
      cases f.aborting <;> rfl
    · refine (getD_report_fill (i := 1) (by decide)).trans ?_
      rw [statusFill_of_some hf]
      change byteOf (portCode f.port) = _
      cases f.port <;> rfl
    · refine (congrArg leNat (slice_report_fill (i := 2) (by decide))).trans ?_
      rw [statusFill_of_some hf]
      exact four _
    · refine (congrArg leNat (slice_report_fill (i := 6) (by decide))).trans ?_
      rw [statusFill_of_some hf]
      exact four _
    · refine (congrArg leNat (slice_report_fill (i := 10) (by decide))).trans ?_
      rw [statusFill_of_some hf]
      exact four _
    · exact (congrArg leNat (slice_report_tail (i := 0) (by decide))).trans (four _)
    · exact (congrArg leNat (slice_report_tail (i := 4) (by decide))).trans (two _)
    · exact (congrArg leNat (slice_report_tail (i := 6) (by decide))).trans (four _)
    · refine (congrArg leNat (slice_report_tail (i := 10) (by decide))).trans ((four _).trans ?_)
      exact Nat.mod_eq_of_lt (BitVec.isLt _)
    · refine (getD_report_tail (i := 14) (by decide)).trans ?_
      cases cleared <;> rfl
    · exact getD_report_tail (i := 15) (by decide)
    · exact getD_report_tail (i := 16) (by decide)

end Sys2Proof.Machine.Requests

end

section
/-! Management requests: the regions, the error records, the votes, CALIBRATE and RESTART. -/

namespace Sys2Proof.Machine.Requests

open Sys2Proof.Machine.Accounts Sys2Proof.Machine.Upkeep Sys2Proof.Machine.Frames Sys2Proof.Machine.Training

variable {s t u : State} {p : Port} {tag : Byte}

/-- A taken request settles the event of its frame. -/
theorem settled_of_taken (h : s.readyForRequest p tag) {block : BitVec 32} {r : MgmtRequest}
    (taken : takeRequest ⟨p, tag, r⟩ (arrived s p) = t) : s.requestArrives p tag block r = .next t.settle := by
  rw [run_of_ready h, taken]

/-! ### Regions (R126 to R131) -/

/-- The reply that carries a region slot (Table 9-7). -/
def regionReply (tag : Byte) (kind : Nat) (slot : Byte) : Option Region → Message
  | none => okReply tag kind 0 0 [0, 0, 0, slot]
  | some r => okReply tag kind (BitVec.ofNat 32 r.first) (BitVec.ofNat 32 r.count)
      [1, byteOf (rightsCode r.rightsA), byteOf (rightsCode r.rightsB), slot]

theorem byteOf_toNat (b : Byte) : byteOf b.toNat = b := by
  unfold byteOf
  rw [BitVec.ofNat_toNat, BitVec.setWidth_eq]

theorem answerSlot_eq {slot : Byte} (low : slot.toNat < 8) (kind : Nat) :
    s.answerSlot p tag kind ⟨slot.toNat, low⟩ =
      s.replyAndLetGo p (regionReply tag kind slot (s.regions[slot.toNat]'low)) := by
  unfold State.answerSlot State.answerOk regionReply
  rw [show s.regions[(⟨slot.toNat, low⟩ : Fin 8)] = s.regions[slot.toNat] from rfl]
  cases s.regions[slot.toNat] with
  | none => simp only [byteOf_toNat]; rfl
  | some r => simp only [byteOf_toNat]; rfl

theorem takeRegionGet_low (h : s.readyForRequest p tag) (awake : s.power.state ≠ .entering) {slot : Byte}
    (low : slot.toNat < 8) : takeRegionGet p tag slot (arrived s p) =
      s.answered p (regionReply tag 19 slot (s.regions[slot.toNat]'low)) := by
  unfold takeRegionGet
  rw [if_neg (by rw [power_arrived]; exact awake), dif_pos low, answerSlot_eq low, reply_arrived h]
  simp only [regions_arrived]

theorem takeRegionGet_high (h : s.readyForRequest p tag) (awake : s.power.state ≠ .entering) {slot : Byte}
    (high : 8 ≤ slot.toNat) : takeRegionGet p tag slot (arrived s p) = s.answered p (failReply tag 19 10 0) := by
  unfold takeRegionGet
  rw [if_neg (by rw [power_arrived]; exact awake), dif_neg (by omega)]
  exact fail_arrived h 19 .badValue

/-- The operands of a REGION-SET that R130 turns away. -/
def WrongRegion (first count : BitVec 32) (enable a b : Byte) : Prop :=
  enable ≠ 0 ∧ (count.toNat = 0 ∨ 16384 < count.toNat ∨ 16384 < first.toNat + count.toNat ∨ 2 < a.toNat ∨ 2 < b.toNat)

theorem regionOperands_of_wrong {first count : BitVec 32} {enable a b : Byte} (wrong : WrongRegion first count enable a b) :
    regionOperands first count enable a b = none := by
  obtain ⟨on, outside⟩ := wrong
  unfold regionOperands
  rw [if_neg on, rightsOf_eq, rightsOf_eq]
  by_cases range : count.toNat = 0 ∨ 16384 < count.toNat ∨ 16384 < first.toNat + count.toNat
  · rw [if_pos range]
  · rw [if_neg range]
    by_cases ha : a.toNat ≤ 2
    · rw [if_neg (show ¬ b.toNat ≤ 2 by omega), if_pos ha]
    · rw [if_neg ha]

theorem regionOperands_of_right {first count : BitVec 32} {enable a b : Byte} (right : ¬ WrongRegion first count enable a b) :
    regionOperands first count enable a b = some (if enable = 0 then none
      else some ⟨first.toNat, count.toNat, rightsFor a.toNat, rightsFor b.toNat⟩) := by
  unfold regionOperands
  by_cases off : enable = 0
  · rw [if_pos off, if_pos off]
  · have inside : ¬ (count.toNat = 0 ∨ 16384 < count.toNat ∨ 16384 < first.toNat + count.toNat ∨ 2 < a.toNat ∨ 2 < b.toNat) :=
      fun k => right ⟨off, k⟩
    rw [if_neg off, if_neg off, if_neg (by omega), rightsOf_eq, rightsOf_eq, if_pos (by omega), if_pos (by omega)]

theorem takeRegionSet_not_owner (h : s.readyForRequest p tag) (awake : s.power.state ≠ .entering) (other : p ≠ s.owner)
    (slot : Byte) (first count : BitVec 32) (enable a b : Byte) :
    takeRegionSet p tag slot first count enable a b (arrived s p) = s.answered p (failReply tag 20 9 0) := by
  unfold takeRegionSet
  rw [if_neg (by rw [power_arrived]; exact awake), if_pos (by rw [owner_arrived]; exact other)]
  exact fail_arrived h 20 .notOwner

theorem takeRegionSet_wrong (h : s.readyForRequest p tag) (awake : s.power.state ≠ .entering) (own : p = s.owner)
    {slot : Byte} {first count : BitVec 32} {enable a b : Byte}
    (wrong : 8 ≤ slot.toNat ∨ WrongRegion first count enable a b) :
    takeRegionSet p tag slot first count enable a b (arrived s p) = s.answered p (failReply tag 20 10 0) := by
  have failed := fail_arrived h 20 .badValue
  unfold takeRegionSet
  rw [if_neg (by rw [power_arrived]; exact awake), if_neg (by rw [owner_arrived]; exact not_not.2 own)]
  by_cases low : slot.toNat < 8
  · rw [dif_pos low, regionOperands_of_wrong (wrong.resolve_left (by omega))]
    exact failed
  · rw [dif_neg low]
    exact failed

theorem takeRegionSet_right (h : s.readyForRequest p tag) (awake : s.power.state ≠ .entering) (own : p = s.owner)
    {slot : Byte} (low : slot.toNat < 8) {first count : BitVec 32} {enable a b : Byte} {r : Option Region}
    (right : regionOperands first count enable a b = some r) :
    takeRegionSet p tag slot first count enable a b (arrived s p) =
      State.answered { s with regions := s.regions.set slot.toNat r low } p (regionReply tag 20 slot r) := by
  unfold takeRegionSet
  rw [if_neg (by rw [power_arrived]; exact awake), if_neg (by rw [owner_arrived]; exact not_not.2 own), dif_pos low, right]
  simp only
  rw [answerSlot_eq low]
  simp only [regions_arrived, Vector.getElem_set_self]
  have effect : { arrived s p with regions := s.regions.set slot.toNat r low } =
      State.setLink { s with regions := s.regions.set slot.toNat r low } p ((s.link p).accepted s.now (some .management)) := by
    cases p <;> rfl
  rw [effect]
  exact answered_eq_of (t := { s with regions := s.regions.set slot.toNat r low }) h (by cases p <;> rfl) rfl _

theorem rightsFor_byte (c : Byte) : rightsFor c.toNat = if c = 0 then .none else if c = 1 then .read else .readWrite := by
  unfold rightsFor
  exact if_congr (BitVec.toNat_inj (y := 0)) rfl (if_congr (BitVec.toNat_inj (y := 1)) rfl rfl)

theorem regionReply_eq (tag : Byte) (kind : Nat) (slot : Byte) (r : Option Region) : regionReply tag kind slot r =
    match r with
    | none => okReply tag kind 0 0 [0, 0, 0, slot]
    | some r => okReply tag kind (BitVec.ofNat 32 r.first) (BitVec.ofNat 32 r.count)
        [1, match r.rightsA with | .none => 0 | .read => 1 | .readWrite => 2,
          match r.rightsB with | .none => 0 | .read => 1 | .readWrite => 2, slot] := by
  rcases r with _ | ⟨first, count, a, b⟩
  · rfl
  · cases a <;> cases b <;> rfl

/-- Settles O57: by the slot, the owner and the operands. -/
theorem regionsAreReadAndSet : Obligations.RegionsAreReadAndSet := by
  intro s p tag slot h awake code reply fail
  have replyEq : ∀ kind r, regionReply tag kind slot r = reply kind r := fun kind r => regionReply_eq tag kind slot r
  refine ⟨fun i hi => ?_, fun high => settled_of_taken h (takeRegionGet_high h awake high),
    fun first count enable a b => ?_⟩
  · have low : slot.toNat < 8 := hi ▸ i.isLt
    obtain rfl : i = ⟨slot.toNat, low⟩ := Fin.ext hi.symm
    rw [← replyEq]
    exact settled_of_taken h (takeRegionGet_low h awake low)
  · intro run rights wrong
    refine ⟨fun other => settled_of_taken h (takeRegionSet_not_owner h awake other slot first count enable a b),
      fun own outside => settled_of_taken h (takeRegionSet_wrong h awake own outside), fun own i hi right => ?_⟩
    intro r
    have low : slot.toNat < 8 := hi ▸ i.isLt
    obtain rfl : i = ⟨slot.toNat, low⟩ := Fin.ext hi.symm
    have operands : regionOperands first count enable a b = some r := by
      rw [regionOperands_of_right right, rightsFor_byte, rightsFor_byte]
    rw [← replyEq]
    exact settled_of_taken h (takeRegionSet_right h awake own low operands)

/-! ### Error records (R123, R124) -/

theorem takeErrorFetch_empty (h : s.readyForRequest p tag) (awake : s.power.state ≠ .entering) (none : s.errors.records = []) :
    takeErrorFetch p tag (arrived s p) = s.answered p (failReply tag 21 12 (BitVec.ofNat 32 s.errors.overflow)) := by
  unfold takeErrorFetch
  rw [if_neg (by rw [power_arrived]; exact awake), errors_arrived, none]
  exact reply_arrived h _

theorem takeErrorFetch_oldest (h : s.readyForRequest p tag) (awake : s.power.state ≠ .entering) {r : ErrorRecord}
    {rest : List ErrorRecord} (records : s.errors.records = r :: rest) :
    takeErrorFetch p tag (arrived s p) = s.answered p (okReply tag 21 (BitVec.ofNat 32 r.block)
      (BitVec.ofNat 32 (r.number + 65536 * sourceCode r.source + 16777216 * flagOf r.rewritten))
      (leBytes 4 r.firstSeen.toNat ++ leBytes 2 r.hits ++ leBytes 2 s.errors.overflow ++
        [byteOf (rest.length + 1), 0])) := by
  unfold takeErrorFetch
  rw [if_neg (by rw [power_arrived]; exact awake), errors_arrived, records]
  exact ok_arrived h 21 _ _ _

theorem carriesNumber_iff {records : List ErrorRecord} {n : Nat} :
    carriesNumber records n = true ↔ ∃ r ∈ records, r.number = n := by
  unfold carriesNumber
  simp only [List.any_eq_true, decide_eq_true_eq]

theorem takeErrorClear_found (h : s.readyForRequest p tag) (awake : s.power.state ≠ .entering) {n : BitVec 32}
    (found : ∃ r ∈ s.errors.records, r.number = n.toNat) :
    takeErrorClear p tag n (arrived s p) = State.answered
      { s with errors := { s.errors with records := s.errors.records.filter fun r => r.number ≠ n.toNat } } p
      (okReply tag 22 n (BitVec.ofNat 32 (s.errors.records.filter fun r => r.number ≠ n.toNat).length) []) := by
  unfold takeErrorClear
  rw [if_neg (by rw [power_arrived]; exact awake), errors_arrived, if_pos (carriesNumber_iff.2 found)]
  exact ok_of_effect
    (u := { s with errors := { s.errors with records := s.errors.records.filter fun r => r.number ≠ n.toNat } }) h
    (by cases p <;> rfl) (by cases p <;> rfl) rfl 22 _ _ _

theorem takeErrorClear_missing (h : s.readyForRequest p tag) (awake : s.power.state ≠ .entering) {n : BitVec 32}
    (missing : ∀ r ∈ s.errors.records, r.number ≠ n.toNat) :
    takeErrorClear p tag n (arrived s p) = s.answered p (failReply tag 22 11 0) := by
  unfold takeErrorClear
  rw [if_neg (by rw [power_arrived]; exact awake), errors_arrived,
    if_neg fun k => by obtain ⟨r, hr, e⟩ := carriesNumber_iff.1 k; exact missing r hr e]
  exact fail_arrived h 22 .notFound

/-- Settles O58: by whether a record is there. -/
theorem errorRecordsAreFetchedAndCleared : Obligations.ErrorRecordsAreFetchedAndCleared := by
  intro s p tag h awake
  refine ⟨fun none => settled_of_taken h (takeErrorFetch_empty h awake none), fun r rest records => ?_,
    fun n found => settled_of_taken h (takeErrorClear_found h awake found),
    fun n missing => settled_of_taken h (takeErrorClear_missing h awake missing)⟩
  intro source
  have code : sourceCode r.source = source := by
    simp only [source]
    cases r.source <;> rfl
  rw [← code]
  exact settled_of_taken h (takeErrorFetch_oldest h awake records)

/-! ### Votes, CALIBRATE and RESTART (R102, R172, R180) -/

theorem otherPort_ne (p : Port) : otherPort p ≠ p := by cases p <;> decide

/-- A vote changed with its notice on the other port leaves the port's own link, and commutes with a change of it. -/
theorem voteNotice_setLink (s : State) (p : Port) (l : Link) (v present : Bool) :
    ((s.setLink p l).setVote p v).raiseNotice (otherPort p) (.retainVote present) =
      ((s.setVote p v).raiseNotice (otherPort p) (.retainVote present)).setLink p l := by
  unfold State.raiseNotice
  split
  · next on =>
    rw [if_pos (by rw [← on]; cases p <;> rfl)]
    cases p <;> rfl
  · next off =>
    rw [if_neg (by intro k; exact off (by rw [← k]; cases p <;> rfl))]
    cases p <;> rfl

theorem link_voteNotice (s : State) (p : Port) (v present : Bool) :
    ((s.setVote p v).raiseNotice (otherPort p) (.retainVote present)).link p = s.link p := by
  obtain ⟨r, h⟩ := onlyPort_raiseNotice (s.setVote p v) (otherPort p) (.retainVote present)
  rw [h]
  cases p <;> rfl

theorem now_voteNotice (s : State) (p : Port) (v present : Bool) :
    ((s.setVote p v).raiseNotice (otherPort p) (.retainVote present)).now = s.now := by
  rw [now_raiseNotice, now_setVote]

/-- A changed vote answered OK. -/
theorem ok_voteNotice (h : s.readyForRequest p tag) (v present : Bool) (kind : Nat) :
    (((arrived s p).setVote p v).raiseNotice (otherPort p) (.retainVote present)).answerOk p tag kind 0 0 [] =
      ((s.setVote p v).raiseNotice (otherPort p) (.retainVote present)).answered p (okReply tag kind 0 0 []) :=
  ok_of_effect h (voteNotice_setLink s p _ v present) (link_voteNotice s p v present) (now_voteNotice s p v present) kind 0 0 []

theorem takeRetainVote_busy (h : s.readyForRequest p tag) (awake : s.power.state ≠ .entering) (busy : s.fill ≠ none) :
    takeRetainVote p tag (arrived s p) = s.answered p (failReply tag 25 8 0) := by
  unfold takeRetainVote
  rw [if_neg (by rw [power_arrived]; exact awake), if_pos (by rw [fill_arrived]; exact Option.isSome_iff_ne_none.2 busy)]
  exact fail_arrived h 25 .busy

theorem takeRetainVote_free (awake : s.power.state ≠ .entering) (none : s.fill = none) :
    takeRetainVote p tag (arrived s p) = (if (s.port p).vote = true then arrived s p
      else ((arrived s p).setVote p true).raiseNotice (otherPort p) (.retainVote true)).answerOk p tag 25 0 0 [] := by
  unfold takeRetainVote
  rw [if_neg (by rw [power_arrived]; exact awake), if_neg (by rw [fill_arrived, none]; exact nofun), vote_arrived]

theorem takeRetainWithdraw_eq (awake : s.power.state ≠ .entering) :
    takeRetainWithdraw p tag (arrived s p) = (if (s.port p).vote = true then
      ((arrived s p).setVote p false).raiseNotice (otherPort p) (.retainVote false)
      else arrived s p).answerOk p tag 26 0 0 [] := by
  unfold takeRetainWithdraw
  rw [if_neg (by rw [power_arrived]; exact awake), removeVote_eq, vote_arrived]

theorem calTrigger_eq (s : State) (k : CalKind) : ∃ maint power, s.calTrigger k = { s with maint := maint, power := power } ∧
    ∀ p l, (s.setLink p l).calTrigger k = (s.calTrigger k).setLink p l := by
  unfold State.calTrigger State.endNap
  simp only [power_setLink, maint_setLink]
  by_cases off : s.power.state = .entering ∨ s.power.state = .retain ∨ s.power.state = .held
  · rw [if_pos off]
    exact ⟨s.maint, s.power, rfl, fun p l => by rw [if_pos off]⟩
  · rw [if_neg off]
    by_cases idle : s.calIdle = true
    · rw [if_pos idle]
      by_cases nap : s.power.state = .nap
      · rw [if_pos nap]
        exact ⟨_, _, rfl, fun p l => by rw [if_neg off, if_pos (by rw [← idle]; cases p <;> rfl), if_pos nap]; cases p <;> rfl⟩
      · rw [if_neg nap]
        exact ⟨_, _, rfl, fun p l => by rw [if_neg off, if_pos (by rw [← idle]; cases p <;> rfl), if_neg nap]; cases p <;> rfl⟩
    · rw [if_neg idle]
      exact ⟨_, _, rfl, fun p l => by
        rw [if_neg off, if_neg (by intro k; exact idle (by rw [← k]; cases p <;> rfl))]
        cases p <;> rfl⟩

theorem takeCalibrate_eq (h : s.readyForRequest p tag) (awake : s.power.state ≠ .entering) :
    takeCalibrate p tag (arrived s p) = (s.calTrigger .long).answered p (okReply tag 27 0 0 []) := by
  obtain ⟨maint, power, shape, commutes⟩ := calTrigger_eq s .long
  unfold takeCalibrate
  rw [if_neg (by rw [power_arrived]; exact awake)]
  exact ok_of_effect h (commutes p _) (by rw [shape]; cases p <;> rfl) (by rw [shape]) 27 0 0 []

theorem takeRestart_not_owner (h : s.readyForRequest p tag) (awake : s.power.state ≠ .entering) (other : p ≠ s.owner) :
    takeRestart p tag (arrived s p) = s.answered p (failReply tag 28 9 0) := by
  unfold takeRestart
  rw [if_neg (by rw [power_arrived]; exact awake), if_pos (by rw [owner_arrived]; exact other)]
  exact fail_arrived h 28 .notOwner

theorem takeRestart_owner (h : s.readyForRequest p tag) (awake : s.power.state ≠ .entering) (own : p = s.owner) :
    takeRestart p tag (arrived s p) = State.answered { s with mgmt := ⟨[], .stopped p⟩ } p (okReply tag 28 0 0 []) := by
  obtain ⟨-, -, -, -, -, -, queue⟩ := id h
  unfold takeRestart
  rw [if_neg (by rw [power_arrived]; exact awake), if_neg (by rw [owner_arrived]; exact not_not.2 own)]
  refine ok_of_effect (u := { s with mgmt := ⟨[], .stopped p⟩ }) h ?_ (by cases p <;> rfl) rfl 28 0 0 []
  rw [← queue]
  cases p <;> rfl

/-- Settles O60: each request by what it meets. -/
theorem votesCalibrateAndRestartAreAnswered : Obligations.VotesCalibrateAndRestartAreAnswered := by
  refine ⟨fun s p tag h awake => ⟨fun busy => settled_of_taken h (takeRetainVote_busy h awake busy), fun none held => ?_,
    fun none unheld => ?_, fun held => ?_, fun unheld => ?_⟩, fun s p tag h awake =>
      ⟨settled_of_taken h (takeCalibrate_eq h awake), fun other => settled_of_taken h (takeRestart_not_owner h awake other),
        fun own => settled_of_taken h (takeRestart_owner h awake own)⟩⟩
  · refine settled_of_taken h ((takeRetainVote_free awake none).trans ?_)
    rw [if_pos held, ok_arrived h]
  · refine settled_of_taken h ((takeRetainVote_free awake none).trans ?_)
    rw [if_neg (by rw [unheld]; exact nofun), ok_voteNotice h]
  · refine settled_of_taken h ((takeRetainWithdraw_eq awake).trans ?_)
    rw [if_pos held, ok_voteNotice h]
  · refine settled_of_taken h ((takeRetainWithdraw_eq awake).trans ?_)
    rw [if_neg (by rw [unheld]; exact nofun), ok_arrived h]

end Sys2Proof.Machine.Requests

end

section
/-! What the hold rules see of the Transaction Table: how a change of the table or of the fill changes the reasons. -/

namespace Sys2Proof.Machine.Table

open Sys2Proof.Machine.Steps Sys2Proof.Machine.Accounts Sys2Proof.Machine.Schedule Sys2Proof.Machine.Upkeep

variable {s t u : State} {p : Port}

/-! ### Listing and unlisting -/

theorem mem_iff_find? {l : List (Nat × Entry)} (w : Sparse.Wf l) {x : Nat × Entry} :
    x ∈ l ↔ Sparse.find? l x.1 = some x.2 :=
  ⟨fun h => Sparse.find?_of_mem w h, fun h => Sparse.mem_of_find? h⟩

theorem mem_insert_iff {l : List (Nat × Entry)} (w : Sparse.Wf l) {k : Nat} {e : Entry} {x : Nat × Entry} :
    x ∈ Sparse.insert l k e ↔ x = (k, e) ∨ (x ∈ l ∧ x.1 ≠ k) := by
  rw [mem_iff_find? (Sparse.wf_insert w k e)]
  by_cases same : x.1 = k
  · rw [same, Sparse.find?_insert_self]
    obtain ⟨j, y⟩ := x
    constructor
    · rintro h
      cases h
      exact .inl (Prod.ext same rfl)
    · rintro (h | h)
      · cases h
        rfl
      · exact absurd rfl h.2
  · rw [Sparse.find?_insert_of_ne _ _ _ _ same, ← mem_iff_find? w]
    exact ⟨fun h => .inr ⟨h, same⟩, fun h => (h.resolve_left fun e => same (by rw [e])).1⟩

theorem mem_erase_iff {l : List (Nat × Entry)} {k : Nat} {x : Nat × Entry} :
    x ∈ Sparse.erase l k ↔ x ∈ l ∧ x.1 ≠ k := by
  unfold Sparse.erase
  rw [List.mem_filter, decide_eq_true_iff]

theorem mem_map_iff {l : List (Nat × Entry)} {f : Nat → Entry → Entry} {x : Nat × Entry} :
    x ∈ Sparse.map f l ↔ ∃ y ∈ l, x = (y.1, f y.1 y.2) := by
  unfold Sparse.map
  rw [List.mem_map]
  exact exists_congr fun y => and_congr_right fun _ => eq_comm

theorem find?_filter {l : List (Nat × Entry)} (w : Sparse.Wf l) (f : Nat × Entry → Bool) (k : Nat) :
    Sparse.find? (l.filter f) k = (Sparse.find? l k).filter fun e => f (k, e) := by
  have key : ∀ e, Sparse.find? (l.filter f) k = some e ↔ Sparse.find? l k = some e ∧ f (k, e) = true := fun e => by
    rw [← mem_iff_find? (Sparse.wf_filter w f) (x := (k, e)), ← mem_iff_find? w (x := (k, e)), List.mem_filter]
  refine Option.ext fun e => ?_
  rw [key, Option.filter_eq_some_iff]

/-! ### Two records the hold rules do not tell apart (R24, R32, R33) -/

/-- The port and the session an owner carries. -/
def sessionOf : Owner → Option (Port × Nat)
  | .port p _ n _ => some (p, n)
  | .maintenance => none

theorem sameSession_eq (a b : Owner) : sameSession a b = decide (sessionOf a ≠ none ∧ sessionOf a = sessionOf b) := by
  cases a <;> cases b <;> simp [sameSession, sessionOf]

/-- Two records alike in all that the hold rules read. -/
structure Alike (x y : Entry) : Prop where
  age : x.age = y.age
  first : x.first = y.first
  count : x.count = y.count
  kind : x.kind = y.kind
  session : sessionOf x.owner = sessionOf y.owner

theorem Alike.refl (x : Entry) : Alike x x := ⟨rfl, rfl, rfl, rfl, rfl⟩

theorem Alike.symm {x y : Entry} (h : Alike x y) : Alike y x := ⟨h.age.symm, h.first.symm, h.count.symm, h.kind.symm, h.session.symm⟩

theorem Alike.trans {x y z : Entry} (h : Alike x y) (k : Alike y z) : Alike x z :=
  ⟨h.age.trans k.age, h.first.trans k.first, h.count.trans k.count, h.kind.trans k.kind, h.session.trans k.session⟩

theorem Alike.older {x x' y y' : Entry} (hx : Alike x x') (hy : Alike y y') : x.older y = x'.older y' := by
  unfold Entry.older
  rw [hx.age, hx.first, hy.age, hy.first]

/-- An older entry `x` gives `e` a reason to be HELD. -/
def holdsBack (x e : Entry) : Bool :=
  x.older e && (x.overlaps e && !(x.readClass && e.readClass) || sameSession x.owner e.owner && (x.isBarrier || e.isBarrier))

theorem hazard_congr {x x' e e' : Entry} (hx : Alike x x') (he : Alike e e') :
    (x.older e && x.overlaps e && !(x.readClass && e.readClass)) =
      (x'.older e' && x'.overlaps e' && !(x'.readClass && e'.readClass)) := by
  rw [hx.older he]
  unfold Entry.overlaps Entry.readClass
  rw [hx.first, hx.count, hx.kind, he.first, he.count, he.kind]

theorem barrier_congr {x x' e e' : Entry} (hx : Alike x x') (he : Alike e e') :
    (x.older e && sameSession x.owner e.owner && (x.isBarrier || e.isBarrier)) =
      (x'.older e' && sameSession x'.owner e'.owner && (x'.isBarrier || e'.isBarrier)) := by
  rw [hx.older he]
  unfold Entry.isBarrier
  rw [sameSession_eq, sameSession_eq, hx.session, he.session, hx.kind, he.kind]

theorem holdsBack_congr {x x' e e' : Entry} (hx : Alike x x') (he : Alike e e') : holdsBack x e = holdsBack x' e' := by
  unfold holdsBack
  have := hazard_congr hx he
  have := barrier_congr hx he
  simp only [Bool.and_assoc, Bool.and_or_distrib_left] at *
  simp only [*]

/-- Every older record that one table holds for `e` has its like in the other. -/
def OlderIn (T T' : List (Nat × Entry)) (e : Entry) : Prop :=
  ∀ x ∈ T, x.2.older e = true → ∃ y ∈ T', Alike x.2 y.2

theorem hazardHolds_mono {T T' : List (Nat × Entry)} {e e' : Entry} (alike : Alike e e') (older : OlderIn T T' e)
    (h : hazardHolds T e = true) : hazardHolds T' e' = true := by
  unfold hazardHolds at h ⊢
  obtain ⟨x, hx, k⟩ := List.any_eq_true.1 h
  have isOlder : x.2.older e = true := by simp only [Bool.and_eq_true] at k; exact k.1.1
  obtain ⟨y, hy, like⟩ := older x hx isOlder
  exact List.any_eq_true.2 ⟨y, hy, (hazard_congr like alike).symm.trans k⟩

theorem barrierHolds_mono {T T' : List (Nat × Entry)} {e e' : Entry} (alike : Alike e e') (older : OlderIn T T' e)
    (h : barrierHolds T e = true) : barrierHolds T' e' = true := by
  unfold barrierHolds at h ⊢
  obtain ⟨x, hx, k⟩ := List.any_eq_true.1 h
  have isOlder : x.2.older e = true := by simp only [Bool.and_eq_true] at k; exact k.1.1
  obtain ⟨y, hy, like⟩ := older x hx isOlder
  exact List.any_eq_true.2 ⟨y, hy, (barrier_congr like alike).symm.trans k⟩

theorem fillHolds_congr {F : Option Fill} {e e' : Entry} (alike : Alike e e') : fillHolds F e = fillHolds F e' := by
  unfold fillHolds
  rw [alike.age, alike.first, alike.count]

theorem isEmpty_iff {h : Holds} : h.isEmpty = true ↔ h.hazard = false ∧ h.barrier = false ∧ h.fill = false := by
  simp [Holds.isEmpty, and_assoc]

/-- The reasons are the same where the older records are and the fill holds the same. -/
theorem holdsOf_congr {T T' : List (Nat × Entry)} {F F' : Option Fill} {e e' : Entry} (alike : Alike e e')
    (there : OlderIn T T' e) (back : OlderIn T' T e') (fill : fillHolds F e = fillHolds F' e') :
    holdsOf T F e = holdsOf T' F' e' := by
  have hazard : hazardHolds T e = hazardHolds T' e' :=
    Bool.eq_iff_iff.2 ⟨hazardHolds_mono alike there, hazardHolds_mono alike.symm back⟩
  have barrier : barrierHolds T e = barrierHolds T' e' :=
    Bool.eq_iff_iff.2 ⟨barrierHolds_mono alike there, barrierHolds_mono alike.symm back⟩
  unfold holdsOf
  rw [hazard, barrier, fill]

/-- With fewer older records and no more of the fill, an entry that was free stays free. -/
theorem isEmpty_mono {T T' : List (Nat × Entry)} {F F' : Option Fill} {e e' : Entry} (alike : Alike e e')
    (there : OlderIn T T' e) (fill : fillHolds F e = true → fillHolds F' e' = true)
    (free : (holdsOf T' F' e').isEmpty = true) : (holdsOf T F e).isEmpty = true := by
  obtain ⟨hazard, barrier, none⟩ := isEmpty_iff.1 free
  refine isEmpty_iff.2 ⟨?_, ?_, ?_⟩
  · exact Bool.eq_false_of_not_eq_true fun h => Bool.noConfusion (hazard.symm.trans (hazardHolds_mono alike there h))
  · exact Bool.eq_false_of_not_eq_true fun h => Bool.noConfusion (barrier.symm.trans (barrierHolds_mono alike there h))
  · exact Bool.eq_false_of_not_eq_true fun h => Bool.noConfusion (none.symm.trans (fill h))

/-- An entry is free when nothing in the table holds it back and the fill does not. -/
theorem isEmpty_holdsOf_iff {T : List (Nat × Entry)} {F : Option Fill} {e : Entry} :
    (holdsOf T F e).isEmpty = true ↔ (∀ x ∈ T, holdsBack x.2 e = false) ∧ fillHolds F e = false := by
  rw [isEmpty_iff]
  unfold holdsOf hazardHolds barrierHolds holdsBack
  simp only [List.any_eq_false, Bool.and_assoc, ← forall₂_and, ← and_assoc]
  refine and_congr_left fun _ => forall₂_congr fun x _ => ?_
  cases x.2.older e <;> simp

theorem olderIn_of_subset {T T' : List (Nat × Entry)} (h : ∀ x ∈ T, x ∈ T') (e : Entry) : OlderIn T T' e :=
  fun x hx _ => ⟨x, h x hx, .refl _⟩

/-- Every record of one table has its like in the other, so far as an older one can be. -/
theorem olderIn_map {T : List (Nat × Entry)} {f : Nat → Entry → Entry} (like : ∀ x ∈ T, Alike x.2 (f x.1 x.2)) (e : Entry) :
    OlderIn T (Sparse.map f T) e ∧ OlderIn (Sparse.map f T) T e := by
  refine ⟨fun x hx _ => ⟨_, mem_map_iff.2 ⟨x, hx, rfl⟩, like x hx⟩, fun x hx _ => ?_⟩
  obtain ⟨y, hy, rfl⟩ := mem_map_iff.1 hx
  exact ⟨y, hy, (like y hy).symm⟩

/-- A record listed that is not older than `e` is not seen by `e`. -/
theorem olderIn_insert_new {T : List (Nat × Entry)} (w : Sparse.Wf T) {k : Nat} {x e : Entry}
    (free : Sparse.find? T k = none) (young : x.older e = false) :
    OlderIn T (Sparse.insert T k x) e ∧ OlderIn (Sparse.insert T k x) T e := by
  constructor
  · intro y hy _
    refine ⟨y, (mem_insert_iff w).2 (.inr ⟨hy, ?_⟩), .refl _⟩
    rintro rfl
    rw [(mem_iff_find? w).1 hy] at free
    cases free
  · intro y hy older
    rcases (mem_insert_iff w).1 hy with rfl | ⟨hy, _⟩
    · rw [young] at older
      cases older
    · exact ⟨y, hy, .refl _⟩

/-- A record listed in place of its like. -/
theorem olderIn_replace {T : List (Nat × Entry)} (w : Sparse.Wf T) {k : Nat} {x y : Entry} (old : Sparse.find? T k = some x)
    (like : Alike x y) (e : Entry) : OlderIn T (Sparse.insert T k y) e ∧ OlderIn (Sparse.insert T k y) T e := by
  constructor
  · intro z hz _
    by_cases same : z.1 = k
    · have hzk := (mem_iff_find? w).1 hz
      rw [same, old] at hzk
      cases hzk
      exact ⟨(k, y), (mem_insert_iff w).2 (.inl rfl), like⟩
    · exact ⟨z, (mem_insert_iff w).2 (.inr ⟨hz, same⟩), .refl _⟩
  · intro z hz _
    rcases (mem_insert_iff w).1 hz with rfl | ⟨hz, _⟩
    · exact ⟨(k, x), (mem_iff_find? w (x := (k, x))).2 old, like.symm⟩
    · exact ⟨z, hz, .refl _⟩

end Sys2Proof.Machine.Table

end

section
/-! The Transaction Table within an event. `Loose` is the table's soundness but for the recorded reasons of HELD entries,
which a re-evaluation restores, and for the slots whose place in a reply list is still open. -/

namespace Sys2Proof.Machine.Table

open Sys2Proof.Machine.Steps Sys2Proof.Machine.Accounts Sys2Proof.Machine.Schedule Sys2Proof.Machine.Upkeep

variable {s t u : State} {p : Port} {L : List Nat} {k : Nat} {e x : Entry}

/-! ### States that differ beside the table -/

/-- What the table's soundness reads of a fill. -/
def fillKey (f : Fill) : Nat × Nat × Nat × Nat := (f.age, f.cursor, f.first, f.count)

/-- Two states with the same table, ages, reply lists and fill range; an access in flight is the same or gone. -/
structure Beside (s t : State) : Prop where
  table : t.table = s.table
  ages : t.ageCounter = s.ageCounter
  replies : ∀ p, (t.port p).replies = (s.port p).replies
  flight : t.path.flight = s.path.flight ∨ t.path.flight = none
  fill : t.fill.map fillKey = s.fill.map fillKey

theorem Beside.of (table : t.table = s.table := by rfl) (ages : t.ageCounter = s.ageCounter := by rfl)
    (replies : ∀ p, (t.port p).replies = (s.port p).replies := by exact fun _ => rfl)
    (flight : t.path.flight = s.path.flight ∨ t.path.flight = none := by exact .inl rfl)
    (fill : t.fill.map fillKey = s.fill.map fillKey := by rfl) : Beside s t := ⟨table, ages, replies, flight, fill⟩

theorem Beside.refl (s : State) : Beside s s := .of

theorem Beside.trans (h : Beside s t) (k : Beside t u) : Beside s u where
  table := k.table.trans h.table
  ages := k.ages.trans h.ages
  replies p := (k.replies p).trans (h.replies p)
  flight := k.flight.elim (fun e => h.flight.imp e.trans e.trans) .inr
  fill := k.fill.trans h.fill

theorem Beside.entry (h : Beside s t) (k : Nat) : t.entry k = s.entry k := congrArg (Sparse.find? · k) h.table

/-! ### The parts of soundness, entry by entry -/

theorem mem_table (w : Sparse.Wf s.table) {x : Nat × Entry} : x ∈ s.table ↔ s.entry x.1 = some x.2 := mem_iff_find? w

/-- The record is that of a live port entry that is DONE: its slot is in its port's reply list. -/
def Listed (e : Entry) (p : Port) : Prop := e.state = .done ∧ ∃ tag session, e.owner = .port p tag session false

/-- Each reply list holds the slots of the port's live DONE entries, the slots of `L` apart, which no list holds. -/
def RepliesBut (L : List Nat) (s : State) : Prop :=
  ∀ p, (s.port p).replies.Nodup ∧ ∀ k, k ∈ (s.port p).replies ↔ k ∉ L ∧ ∃ e, s.entry k = some e ∧ Listed e p

theorem repliesBut_nil : RepliesBut [] s ↔ s.repliesSound := by
  refine forall_congr' fun p => and_congr_right fun _ => forall_congr' fun k => iff_congr Iff.rfl ?_
  constructor
  · rintro ⟨-, e, he, done, tag, session, own⟩
    exact ⟨e, tag, session, he, done, own⟩
  · rintro ⟨e, tag, session, he, done, own⟩
    exact ⟨List.not_mem_nil, e, he, done, tag, session, own⟩

/-- Ages, entry by entry. -/
structure Ages (s : State) : Prop where
  below : ∀ x ∈ s.table, x.2.age < s.ageCounter
  apart : ∀ x ∈ s.table, ∀ y ∈ s.table, x.1 ≠ y.1 → x.2.age ≠ y.2.age ∨ x.2.first ≠ y.2.first
  fill : ∀ f, s.fill = some f → f.age < s.ageCounter ∧ f.cursor ≤ f.first + f.count ∧
    (f.first + f.count - f.cursor) % 8 = 0 ∧
    ∀ x ∈ s.table, x.2.age = f.age → x.2.first < f.cursor ∧ x.2.first + x.2.count ≤ f.cursor

theorem ages_iff (w : Sparse.Wf s.table) : s.agesSound ↔ Ages s := by
  constructor
  · rintro ⟨below, apart, fill⟩
    refine ⟨below, fun x hx y hy ne => ?_, fill⟩
    have sym : Std.Symm fun x y : Nat × Entry => x.2.age ≠ y.2.age ∨ x.2.first ≠ y.2.first :=
      ⟨fun a b h => h.imp Ne.symm Ne.symm⟩
    exact apart.forall hx hy (fun e => ne (by rw [e]))
  · rintro ⟨below, apart, fill⟩
    exact ⟨below, w.imp_of_mem fun hx hy lt => apart _ hx _ hy (Nat.ne_of_lt lt), fill⟩

/-- The table's soundness without the recorded reasons, the slots of `L` being in no reply list. -/
structure Loose (L : List Nat) (s : State) : Prop where
  wf : Sparse.Wf s.table
  ages : Ages s
  replies : RepliesBut L s
  flight : s.flightSound
  free : ∀ x ∈ s.table, x.2.state ≠ .held → (holdsOf s.table s.fill x.2).isEmpty = true
  records : s.recordsPresent

/-- The recorded reasons of a HELD entry are those that apply, at least one. -/
def HeldRight (s : State) : Prop :=
  ∀ x ∈ s.table, x.2.state = .held → x.2.holds = holdsOf s.table s.fill x.2 ∧ x.2.holds.isEmpty = false

theorem tableSound_iff : s.tableSound ↔ Loose [] s ∧ HeldRight s := by
  constructor
  · rintro ⟨wf, ages, replies, flight, holds, records⟩
    exact ⟨⟨wf, (ages_iff wf).1 ages, repliesBut_nil.2 replies, flight, fun x hx => (holds x hx).2, records⟩,
      fun x hx => (holds x hx).1⟩
  · rintro ⟨h, right⟩
    exact ⟨h.wf, (ages_iff h.wf).2 h.ages, repliesBut_nil.1 h.replies, h.flight,
      fun x hx => ⟨right x hx, h.free x hx⟩, h.records⟩

theorem loose_of_sound (h : s.tableSound) : Loose [] s := (tableSound_iff.1 h).1

theorem fillHolds_key {F F' : Option Fill} (same : F'.map fillKey = F.map fillKey) (e : Entry) :
    fillHolds F' e = fillHolds F e := by
  cases F <;> cases F' <;> simp only [Option.map_none, Option.map_some, reduceCtorEq] at same
  · rfl
  · simp only [fillKey, Option.some.injEq, Prod.mk.injEq] at same
    obtain ⟨age, cursor, first, count⟩ := same
    simp only [fillHolds, age, cursor, first, count]

theorem holdsOf_key (T : List (Nat × Entry)) {F F' : Option Fill} (same : F'.map fillKey = F.map fillKey) (e : Entry) :
    holdsOf T F' e = holdsOf T F e := by
  unfold holdsOf
  rw [fillHolds_key same]

theorem Loose.beside (h : Loose L s) (b : Beside s t) : Loose L t where
  wf := by rw [b.table]; exact h.wf
  ages := by
    refine ⟨by rw [b.table, b.ages]; exact h.ages.below, by rw [b.table]; exact h.ages.apart, fun f hf => ?_⟩
    have key := b.fill
    rw [hf, Option.map_some] at key
    obtain ⟨g, hg, same⟩ := Option.map_eq_some_iff.1 key.symm
    simp only [fillKey, Prod.mk.injEq] at same
    obtain ⟨age, cursor, first, count⟩ := same
    rw [← age, ← cursor, ← first, ← count, b.table, b.ages]
    exact h.ages.fill g hg
  replies p := by
    rw [b.replies]
    exact ⟨(h.replies p).1, fun k => by rw [b.entry]; exact (h.replies p).2 k⟩
  flight f k hf hk := by
    rw [b.entry]
    rcases b.flight with same | none
    · exact h.flight f k (same.symm.trans hf) hk
    · rw [none] at hf
      cases hf
  free x hx := by
    rw [b.table] at hx ⊢
    rw [holdsOf_key _ b.fill]
    exact h.free x hx
  records x hx := by
    rw [b.table] at hx
    exact h.records x hx

theorem HeldRight.beside (h : HeldRight s) (b : Beside s t) : HeldRight t := fun x hx => by
  rw [b.table] at hx ⊢
  rw [holdsOf_key _ b.fill]
  exact h x hx

theorem tableSound_of_beside (h : s.tableSound) (b : Beside s t) : t.tableSound := by
  obtain ⟨loose, right⟩ := tableSound_iff.1 h
  exact tableSound_iff.2 ⟨loose.beside b, right.beside b⟩

/-! ### Operations beside the table -/

theorem beside_setPort (s : State) (p : Port) {r : PortRec} (h : r.replies = (s.port p).replies) : Beside s (s.setPort p r) where
  table := table_setPort s p r
  ages := ageCounter_setPort s p r
  replies q := by
    by_cases e : q = p
    · subst e
      rw [port_setPort_self]
      exact h
    · rw [port_setPort_of_ne _ _ _ _ e]
  flight := .inl (by rw [path_setPort])
  fill := by rw [fill_setPort]

theorem beside_setLink (s : State) (p : Port) (l : Link) : Beside s (s.setLink p l) := beside_setPort s p rfl

theorem beside_emit (s : State) (p : Port) (f : Frame) : Beside s (s.emit p f) := beside_setPort s p rfl

theorem beside_setVote (s : State) (p : Port) (v : Bool) : Beside s (s.setVote p v) := beside_setPort s p rfl

theorem beside_raiseNotice (s : State) (p : Port) (n : Notice) : Beside s (s.raiseNotice p n) := by
  unfold State.raiseNotice
  split
  · exact beside_setLink s p _
  · exact .refl s

theorem beside_removeVote (s : State) (p : Port) : Beside s (s.removeVote p) := by
  unfold State.removeVote
  split
  · exact (beside_setVote s p false).trans (beside_raiseNotice _ _ _)
  · exact .refl s

theorem beside_returnCredit (s : State) (p : Port) (cls : RequestClass) : Beside s (s.returnCredit p cls) := by
  unfold State.returnCredit
  split
  · exact beside_setLink s p _
  · exact .refl s

theorem beside_sendAck (s : State) (p : Port) : Beside s (s.sendAck p) := (beside_setLink s p _).trans (beside_emit _ p _)

theorem beside_sendMessage (s : State) (p : Port) (m : Message) : Beside s (s.sendMessage p m) :=
  (beside_setLink s p _).trans (beside_emit _ p _)

theorem beside_acceptFrame (s : State) (p : Port) (cls : Option RequestClass) : Beside s (s.acceptFrame p cls) := by
  unfold State.acceptFrame
  simp only
  split
  · exact (beside_setLink s p _).trans (beside_sendAck _ p)
  · exact beside_setLink s p _

theorem beside_answerTrain (s : State) (p : Port) (revision : Byte) : Beside s (s.answerTrain p revision) :=
  (beside_setLink s p _).trans (beside_emit _ p _)

theorem beside_setPower (s : State) (power : Power) : Beside s { s with power := power } := .of

theorem beside_setBanks (s : State) (banks : Vector Bank 16) : Beside s { s with banks := banks } := .of

theorem beside_setMgmt (s : State) (mgmt : Management) : Beside s { s with mgmt := mgmt } := .of

theorem beside_endNap (s : State) : Beside s s.endNap := by
  rw [endNap_eq]
  exact beside_setPower s _

theorem beside_settleRunDown (s : State) : Beside s s.settleRunDown := by
  unfold State.settleRunDown
  split
  · exact .of (flight := .inr rfl)
  · exact .refl s

theorem beside_noteRestart (s : State) (p : Port) (dropped : List BufferedFrame) : Beside s (s.noteRestart p dropped) := by
  unfold State.noteRestart
  split
  · exact beside_setMgmt s _
  · exact .refl s

theorem beside_ackProgress (s : State) (p : Port) (n : Nat) : Beside s (s.ackProgress p n) :=
  (beside_setLink s p _).trans (beside_noteRestart _ p _)

theorem beside_takeReport (s : State) (source : Source) (block : Nat) : Beside s (s.takeReport source block) := by
  have errors : ∀ errors : ErrorTable, Beside s { s with errors := errors } := fun _ => .of
  have told : ∀ (errors : ErrorTable) (block : Nat) (source : Source) (kind : ReportKind) (number : Nat),
      Beside s (State.raiseUncorrectable { s with errors := errors } block source kind number) :=
    fun _ _ _ _ _ => ((errors _).trans (beside_raiseNotice _ .a _)).trans (beside_raiseNotice _ .b _)
  unfold State.takeReport
  split
  · simp only
    split
    · exact told ..
    · exact errors _
  · split
    · exact told ..
    · exact told ..

theorem beside_foldl {α : Type} {f : State → α → State} (h : ∀ s x, Beside s (f s x)) (l : List α) (s : State) :
    Beside s (l.foldl f s) := by
  induction l generalizing s with
  | nil => exact .refl s
  | cons x rest ih => exact (h s x).trans (ih _)

theorem entry_setPort (s : State) (p : Port) (r : PortRec) (k : Nat) : (s.setPort p r).entry k = s.entry k := by
  cases p <;> rfl

/-! ### A slot in and out of the open ones -/

/-- A slot that no live DONE entry is in may be named open. -/
theorem Loose.open_ (h : Loose L s) (none : ∀ e p, s.entry k = some e → ¬ Listed e p) : Loose (k :: L) s where
  wf := h.wf
  ages := h.ages
  flight := h.flight
  free := h.free
  records := h.records
  replies p := by
    obtain ⟨nodup, mem⟩ := h.replies p
    refine ⟨nodup, fun j => (mem j).trans ⟨fun ⟨out, e, he, listed⟩ => ⟨?_, e, he, listed⟩, fun ⟨out, found⟩ =>
      ⟨fun hj => out (List.mem_cons_of_mem _ hj), found⟩⟩⟩
    intro hj
    rcases List.mem_cons.1 hj with rfl | hj
    · exact none e p he listed
    · exact out hj

/-- An open slot that no live DONE entry is in need not be named open. -/
theorem Loose.close (h : Loose (k :: L) s) (none : ∀ e p, s.entry k = some e → ¬ Listed e p) : Loose L s where
  wf := h.wf
  ages := h.ages
  flight := h.flight
  free := h.free
  records := h.records
  replies p := by
    obtain ⟨nodup, mem⟩ := h.replies p
    refine ⟨nodup, fun j => (mem j).trans ⟨fun ⟨out, found⟩ => ⟨fun hj => out (List.mem_cons_of_mem _ hj), found⟩,
      fun ⟨out, e, he, listed⟩ => ⟨?_, e, he, listed⟩⟩⟩
    intro hj
    rcases List.mem_cons.1 hj with rfl | hj
    · exact none e p he listed
    · exact out hj

/-- An open slot of a live DONE entry joins its port's reply list. -/
theorem Loose.list (h : Loose (k :: L) s) (new : k ∉ L) (he : s.entry k = some e) (listed : Listed e p) {r : PortRec}
    (replies : r.replies = (s.port p).replies ++ [k]) : Loose L (s.setPort p r) where
  wf := by rw [table_setPort]; exact h.wf
  ages := by
    refine ⟨?_, ?_, ?_⟩
    · rw [table_setPort, ageCounter_setPort]; exact h.ages.below
    · rw [table_setPort]; exact h.ages.apart
    · rw [table_setPort, ageCounter_setPort, fill_setPort]; exact h.ages.fill
  flight := by
    intro f j hf hj
    rw [path_setPort] at hf
    rw [entry_setPort]
    exact h.flight f j hf hj
  free := by rw [table_setPort, fill_setPort]; exact h.free
  records x hx := by rw [table_setPort] at hx; exact h.records x hx
  replies q := by
    obtain ⟨nodup, mem⟩ := h.replies q
    obtain ⟨done, tag, session, own⟩ := listed
    by_cases same : q = p
    · subst same
      rw [port_setPort_self, replies]
      have out : k ∉ (s.port q).replies := fun hk => ((mem k).1 hk).1 List.mem_cons_self
      refine ⟨List.nodup_append.2 ⟨nodup, List.nodup_singleton k, fun a ha b hb => ?_⟩, fun j => ?_⟩
      · rw [List.mem_singleton] at hb
        rintro rfl
        exact out (hb ▸ ha)
      · rw [List.mem_append, List.mem_singleton, mem, entry_setPort]
        constructor
        · rintro (⟨hj, found⟩ | rfl)
          · exact ⟨fun hL => hj (List.mem_cons_of_mem _ hL), found⟩
          · exact ⟨new, e, he, done, tag, session, own⟩
        · rintro ⟨hj, found⟩
          by_cases ejk : j = k
          · exact .inr ejk
          · exact .inl ⟨fun hL => (List.mem_cons.1 hL).elim ejk hj, found⟩
    · rw [port_setPort_of_ne _ _ _ _ same]
      refine ⟨nodup, fun j => ?_⟩
      rw [mem, entry_setPort]
      constructor
      · rintro ⟨hj, found⟩
        exact ⟨fun hL => hj (List.mem_cons_of_mem _ hL), found⟩
      · rintro ⟨hj, y, hy, state, tag', session', own'⟩
        refine ⟨fun hL => ?_, y, hy, state, tag', session', own'⟩
        rcases List.mem_cons.1 hL with rfl | hL
        · rw [he] at hy
          cases hy
          rw [own] at own'
          cases own'
          exact same rfl
        · exact hj hL

/-! ### A slot cleared (R39) -/

theorem mem_clearSlot {y : Nat × Entry} : y ∈ (s.clearSlot k).table ↔ y ∈ s.table ∧ y.1 ≠ k := mem_erase_iff

theorem entry_clearSlot_self (s : State) (k : Nat) : (s.clearSlot k).entry k = none := Sparse.find?_erase_self _ _

theorem entry_clearSlot_of_ne (s : State) {k j : Nat} (h : j ≠ k) : (s.clearSlot k).entry j = s.entry j :=
  Sparse.find?_erase_of_ne _ _ _ h

/-- The access in flight is none of slot `k`. -/
def NotInFlight (s : State) (k : Nat) : Prop := ∀ f, s.path.flight = some f → f.slot ≠ some k

theorem notInFlight_of_state (h : Loose L s) (he : s.entry k = some e) (h1 : e.state ≠ .inAccess) (h2 : e.state ≠ .inUpdate) :
    NotInFlight s k := by
  intro f hf hk
  obtain ⟨x, hx, state⟩ := h.flight f k hf hk
  rw [he] at hx
  cases hx
  exact state.elim h1 h2

/-- An open slot leaves the table; it is open no longer. -/
theorem Loose.clearSlot (h : Loose (k :: L) s) (still : NotInFlight s k) : Loose L (s.clearSlot k) where
  wf := Sparse.wf_erase h.wf k
  ages := by
    refine ⟨fun x hx => h.ages.below x (mem_clearSlot.1 hx).1,
      fun x hx y hy => h.ages.apart x (mem_clearSlot.1 hx).1 y (mem_clearSlot.1 hy).1, fun f hf => ?_⟩
    obtain ⟨age, cursor, whole, mine⟩ := h.ages.fill f hf
    exact ⟨age, cursor, whole, fun x hx => mine x (mem_clearSlot.1 hx).1⟩
  replies p := by
    obtain ⟨nodup, mem⟩ := h.replies p
    refine ⟨nodup, fun j => (mem j).trans ?_⟩
    by_cases same : j = k
    · subst same
      rw [entry_clearSlot_self]
      constructor
      · rintro ⟨out, -⟩
        exact absurd List.mem_cons_self out
      · rintro ⟨-, x, hx, -⟩
        cases hx
    · rw [entry_clearSlot_of_ne s same]
      exact and_congr_left fun _ => not_congr (List.mem_cons.trans (or_iff_right same))
  flight f j hf hj := by
    have ne : j ≠ k := by
      rintro rfl
      exact still f hf hj
    rw [entry_clearSlot_of_ne s ne]
    exact h.flight f j hf hj
  free x hx state := by
    obtain ⟨hx, -⟩ := mem_clearSlot.1 hx
    exact isEmpty_mono (.refl _) (olderIn_of_subset (fun y hy => (mem_clearSlot.1 hy).1) _) id (h.free x hx state)
  records x hx := h.records x (mem_clearSlot.1 hx).1

theorem beside_freeSlotOf (he : s.entry k = some e) : Beside (s.clearSlot k) (s.freeSlotOf k) := by
  unfold State.freeSlotOf
  rw [he]
  simp only
  split
  · exact .refl _
  · exact beside_returnCredit _ _ _

end Sys2Proof.Machine.Table

end

section
/-! The operations on the Transaction Table, each against `Loose`: re-evaluation, a record replaced, a record new. -/

namespace Sys2Proof.Machine.Table

open Sys2Proof.Machine.Steps Sys2Proof.Machine.Accounts Sys2Proof.Machine.Schedule Sys2Proof.Machine.Upkeep

variable {s t u : State} {p : Port} {L : List Nat} {k : Nat} {e x : Entry}

/-! ### A HELD record worked out afresh (R35, R36) -/

theorem alike_reheld (e : Entry) (h : Holds) : Alike e (e.reheld h) := by
  unfold Entry.reheld
  split
  · split
    · exact ⟨rfl, rfl, rfl, rfl, rfl⟩
    · exact ⟨rfl, rfl, rfl, rfl, rfl⟩
  · exact .refl e

theorem owner_reheld_eq (e : Entry) (h : Holds) : (e.reheld h).owner = e.owner := by
  unfold Entry.reheld
  split
  · split <;> rfl
  · rfl

theorem writeBack_reheld (e : Entry) (h : Holds) : (e.reheld h).writeBack = e.writeBack := by
  unfold Entry.reheld
  split
  · split <;> rfl
  · rfl

theorem reheld_of_not_held (state : e.state ≠ .held) (h : Holds) : e.reheld h = e := if_neg state

theorem reheld_of_empty {h : Holds} (state : e.state = .held) (empty : h.isEmpty = true) :
    e.reheld h = { e with holds := h, state := if e.isBarrier then .done else .queued } :=
  (if_pos state).trans (if_pos empty)

theorem reheld_of_held {h : Holds} (state : e.state = .held) (some : h.isEmpty = false) :
    e.reheld h = { e with holds := h } :=
  (if_pos state).trans (if_neg (by rw [some]; exact Bool.false_ne_true))

theorem state_reheld_eq_held {h : Holds} (state : (e.reheld h).state = .held) : e.state = .held ∧ h.isEmpty = false := by
  by_cases held : e.state = .held
  · refine ⟨held, Bool.eq_false_of_not_eq_true fun empty => ?_⟩
    rw [reheld_of_empty held empty] at state
    simp only at state
    split at state <;> cases state
  · rw [reheld_of_not_held held] at state
    exact absurd state held

/-- The states of the access are not those a re-evaluation gives. -/
theorem state_reheld_ne {h : Holds} (held : e.state = .held) :
    (e.reheld h).state ≠ .inUpdate ∧ (e.reheld h).state ≠ .inAccess := by
  by_cases empty : h.isEmpty = true
  · rw [reheld_of_empty held empty]
    simp only
    split <;> exact ⟨nofun, nofun⟩
  · rw [reheld_of_held held (Bool.eq_false_of_not_eq_true empty)]
    simp only [held]
    exact ⟨nofun, nofun⟩

/-- A record that a re-evaluation brings from HELD to DONE is a BARRIER to which no reason applies. -/
theorem reheld_done {h : Holds} (held : e.state = .held) (done : (e.reheld h).state = .done) :
    e.isBarrier = true ∧ h.isEmpty = true := by
  by_cases empty : h.isEmpty = true
  · rw [reheld_of_empty held empty] at done
    simp only at done
    refine ⟨?_, empty⟩
    by_contra other
    rw [if_neg other] at done
    cases done
  · rw [reheld_of_held held (Bool.eq_false_of_not_eq_true empty)] at done
    rw [show ({ e with holds := h } : Entry).state = e.state from rfl, held] at done
    cases done

theorem fieldsPresent_reheld (fields : e.fieldsPresent) (h : Holds) : (e.reheld h).fieldsPresent := by
  by_cases held : e.state = .held
  · obtain ⟨range, set, -⟩ := fields
    have none : e.writeBack = [] := by
      by_contra some
      rw [set.1 some] at held
      cases held
    have like := alike_reheld e h
    refine ⟨fun barrier => ?_, ?_, fun out => ?_⟩
    · rw [← like.first, ← like.count]
      exact range (like.kind.trans barrier)
    · rw [writeBack_reheld, none]
      exact ⟨fun h => absurd rfl h, fun h => absurd h (state_reheld_ne held).1⟩
    · by_cases empty : h.isEmpty = true
      · rw [reheld_of_empty held empty]
        exact empty
      · rw [reheld_of_held held (Bool.eq_false_of_not_eq_true empty)] at out
        exact absurd held out
  · rw [reheld_of_not_held held]
    exact fields

/-! ### One pass of re-evaluation -/

/-- The record worked out afresh against a state. -/
def reheldIn (s : State) (_ : Nat) (e : Entry) : Entry := e.reheld (holdsOf s.table s.fill e)

/-- The state with every HELD record worked out afresh, before the completed BARRIERs are let go. -/
def reheldState (s : State) : State :=
  { s with table := Sparse.map (reheldIn s) s.table }

theorem reevaluatePass_eq (s : State) : s.reevaluatePass =
    s.barriersToComplete.foldl (fun s x => s.barrierDone x.1 x.2) (reheldState s) := rfl

theorem mem_reheldState {y : Nat × Entry} : y ∈ (reheldState s).table ↔
    ∃ x ∈ s.table, y = (x.1, x.2.reheld (holdsOf s.table s.fill x.2)) :=
  mem_map_iff (f := reheldIn s)

theorem entry_reheldState (s : State) (k : Nat) :
    (reheldState s).entry k = (s.entry k).map fun e => e.reheld (holdsOf s.table s.fill e) :=
  Sparse.find?_map s.table (reheldIn s) k

theorem mem_barriersToComplete {y : Nat × Entry} : y ∈ s.barriersToComplete ↔
    y ∈ s.table ∧ y.2.state = .held ∧ y.2.isBarrier = true ∧ (holdsOf s.table s.fill y.2).isEmpty = true := by
  unfold State.barriersToComplete
  simp only [List.mem_filter, Bool.and_eq_true, decide_eq_true_eq, and_assoc]

/-- The reasons read the same before and after. -/
theorem holdsOf_reheldState (s : State) (e : Entry) (h : Holds) :
    holdsOf (reheldState s).table (reheldState s).fill (e.reheld h) = holdsOf s.table s.fill e := by
  have like : ∀ x ∈ s.table, Alike x.2 (reheldIn s x.1 x.2) := fun x _ => alike_reheld _ _
  exact (holdsOf_congr (alike_reheld e h) (olderIn_map like e).1 (olderIn_map like _).2
    (fillHolds_congr (alike_reheld e h))).symm

theorem heldRight_reheldState (s : State) : HeldRight (reheldState s) := by
  intro y hy held
  obtain ⟨x, -, rfl⟩ := mem_reheldState.1 hy
  obtain ⟨was, some⟩ := state_reheld_eq_held held
  have recorded : (x.2.reheld (holdsOf s.table s.fill x.2)).holds = holdsOf s.table s.fill x.2 := by
    rw [reheld_of_held was some]
  rw [holdsOf_reheldState]
  exact ⟨recorded, by rw [recorded]; exact some⟩

theorem Loose.reheldState (h : Loose [] s) : Loose (s.barriersToComplete.map Prod.fst) (reheldState s) where
  wf := Sparse.wf_map h.wf (reheldIn s)
  ages := by
    refine ⟨fun y hy => ?_, fun y hy z hz ne => ?_, fun f hf => ?_⟩
    · obtain ⟨x, hx, rfl⟩ := mem_reheldState.1 hy
      rw [← (alike_reheld x.2 _).age]
      exact h.ages.below x hx
    · obtain ⟨x, hx, rfl⟩ := mem_reheldState.1 hy
      obtain ⟨w, hw, rfl⟩ := mem_reheldState.1 hz
      rw [← (alike_reheld x.2 _).age, ← (alike_reheld w.2 _).age, ← (alike_reheld x.2 _).first, ← (alike_reheld w.2 _).first]
      exact h.ages.apart x hx w hw ne
    · obtain ⟨age, cursor, whole, mine⟩ := h.ages.fill f hf
      refine ⟨age, cursor, whole, fun y hy => ?_⟩
      obtain ⟨x, hx, rfl⟩ := mem_reheldState.1 hy
      rw [← (alike_reheld x.2 _).age, ← (alike_reheld x.2 _).first, ← (alike_reheld x.2 _).count]
      exact mine x hx
  replies q := by
    obtain ⟨nodup, mem⟩ := h.replies q
    refine ⟨nodup, fun j => (mem j).trans ?_⟩
    rw [entry_reheldState]
    constructor
    · rintro ⟨-, x, hx, done, own⟩
      have out : x.state ≠ .held := by rw [done]; exact nofun
      refine ⟨fun hj => ?_, x, by rw [hx, Option.map_some, reheld_of_not_held out], done, own⟩
      obtain ⟨y, hy, rfl⟩ := List.mem_map.1 hj
      obtain ⟨hy, held, -, -⟩ := mem_barriersToComplete.1 hy
      rw [(mem_table h.wf).1 hy] at hx
      cases hx
      exact out held
    · rintro ⟨new, y, hy, done, own⟩
      obtain ⟨x, hx, rfl⟩ := Option.map_eq_some_iff.1 hy
      by_cases held : x.state = .held
      · obtain ⟨barrier, empty⟩ := reheld_done held done
        exact absurd (List.mem_map.2 ⟨(j, x), mem_barriersToComplete.2 ⟨(mem_table h.wf (x := (j, x))).2 hx, held, barrier,
          empty⟩, rfl⟩) new
      · rw [reheld_of_not_held held] at done own
        exact ⟨List.not_mem_nil, x, hx, done, own⟩
  flight f j hf hj := by
    obtain ⟨x, hx, state⟩ := h.flight f j hf hj
    refine ⟨x, ?_, state⟩
    rw [entry_reheldState, hx, Option.map_some, reheld_of_not_held]
    rcases state with state | state <;> rw [state] <;> exact nofun
  free y hy out := by
    obtain ⟨x, hx, rfl⟩ := mem_reheldState.1 hy
    rw [holdsOf_reheldState]
    by_cases held : x.2.state = .held
    · by_contra some
      have some := Bool.eq_false_of_not_eq_true some
      simp only at out
      rw [reheld_of_held held some] at out
      exact out held
    · exact h.free x hx held
  records y hy := by
    obtain ⟨x, hx, rfl⟩ := mem_reheldState.1 hy
    exact fieldsPresent_reheld (h.records x hx) _

/-! ### The completed BARRIERs let go (R38, R43) -/

theorem barrierDone_maintenance (own : e.owner = .maintenance) : s.barrierDone k e = s := by
  unfold State.barrierDone
  rw [own]

theorem barrierDone_orphan {tag : Byte} {n : Nat} (own : e.owner = .port p tag n true) :
    s.barrierDone k e = s.freeSlotOf k := by
  unfold State.barrierDone
  rw [own]
  rfl

theorem barrierDone_live {tag : Byte} {n : Nat} (own : e.owner = .port p tag n false) :
    s.barrierDone k e = s.setPort p { s.port p with replies := (s.port p).replies ++ [k] } := by
  unfold State.barrierDone
  rw [own]
  rfl

/-- What letting a BARRIER go leaves of the other slots. -/
theorem entry_barrierDone_of_ne (s : State) (x : Nat × Entry) {j : Nat} (h : j ≠ x.1) :
    (s.barrierDone x.1 x.2).entry j = s.entry j := by
  match own : x.2.owner with
  | .maintenance => rw [barrierDone_maintenance own]
  | .port p tag n false => rw [barrierDone_live own, entry_setPort]
  | .port p tag n true =>
    rw [barrierDone_orphan own]
    cases he : s.entry x.1 with
    | none =>
      unfold State.freeSlotOf
      rw [he]
    | some y => rw [(beside_freeSlotOf he).entry, entry_clearSlot_of_ne s h]

theorem Loose.barrierDone {y : Nat × Entry} {F : List Nat} (h : Loose (y.1 :: F) s) (new : y.1 ∉ F)
    (he : s.entry y.1 = some e) (done : e.state = .done) (own : e.owner = y.2.owner) : Loose F (s.barrierDone y.1 y.2) := by
  match hown : y.2.owner with
  | .maintenance =>
    rw [barrierDone_maintenance hown]
    refine h.close fun x q hx listed => ?_
    rw [he] at hx
    cases hx
    obtain ⟨-, tag, n, mine⟩ := listed
    rw [own, hown] at mine
    cases mine
  | .port p tag n false =>
    rw [barrierDone_live hown]
    exact h.list new he ⟨done, tag, n, own.trans hown⟩ rfl
  | .port p tag n true =>
    rw [barrierDone_orphan hown]
    exact (h.clearSlot (notInFlight_of_state h he (by rw [done]; exact nofun) (by rw [done]; exact nofun))).beside
      (beside_freeSlotOf he)

theorem loose_foldl_barrierDone (finished : List (Nat × Entry)) (h : Loose (finished.map Prod.fst) s)
    (nodup : (finished.map Prod.fst).Nodup)
    (done : ∀ y ∈ finished, ∃ e, s.entry y.1 = some e ∧ e.state = .done ∧ e.owner = y.2.owner) :
    Loose [] (finished.foldl (fun s x => s.barrierDone x.1 x.2) s) := by
  induction finished generalizing s with
  | nil => exact h
  | cons y rest ih =>
    rw [List.map_cons, List.nodup_cons] at nodup
    obtain ⟨new, nodup⟩ := nodup
    obtain ⟨e, he, state, own⟩ := done y List.mem_cons_self
    refine ih (Loose.barrierDone h new he state own) nodup fun z hz => ?_
    have ne : z.1 ≠ y.1 := fun same => new (same ▸ List.mem_map_of_mem hz)
    rw [entry_barrierDone_of_ne s y ne]
    exact done z (List.mem_cons_of_mem _ hz)

theorem done_reheldState (w : Sparse.Wf s.table) {y : Nat × Entry} (hy : y ∈ s.barriersToComplete) :
    ∃ e, (reheldState s).entry y.1 = some e ∧ e.state = .done ∧ e.owner = y.2.owner := by
  obtain ⟨hy, held, barrier, empty⟩ := mem_barriersToComplete.1 hy
  refine ⟨_, by rw [entry_reheldState, (mem_table w).1 hy, Option.map_some], ?_, owner_reheld_eq _ _⟩
  rw [reheld_of_empty held empty]
  exact if_pos barrier

theorem nodup_barriersToComplete (w : Sparse.Wf s.table) : (s.barriersToComplete.map Prod.fst).Nodup := by
  rw [List.Nodup, List.pairwise_map]
  exact (Sparse.wf_filter w _).imp fun h => Nat.ne_of_lt h

theorem Loose.reevaluatePass (h : Loose [] s) : Loose [] s.reevaluatePass :=
  loose_foldl_barrierDone _ h.reheldState (nodup_barriersToComplete h.wf) fun _ hy => done_reheldState h.wf hy

/-- With no orphan among them the completed BARRIERs leave the table and the fill as they are. -/
theorem table_foldl_barrierDone (finished : List (Nat × Entry)) (s : State)
    (live : ∀ y ∈ finished, y.2.owner.isOrphan = false) :
    (finished.foldl (fun s x => s.barrierDone x.1 x.2) s).table = s.table ∧
      (finished.foldl (fun s x => s.barrierDone x.1 x.2) s).fill = s.fill := by
  induction finished generalizing s with
  | nil => exact ⟨rfl, rfl⟩
  | cons y rest ih =>
    obtain ⟨table, fill⟩ := ih (s.barrierDone y.1 y.2) fun z hz => live z (List.mem_cons_of_mem _ hz)
    rw [List.foldl_cons, table, fill]
    match own : y.2.owner with
    | .maintenance => rw [barrierDone_maintenance own]; exact ⟨rfl, rfl⟩
    | .port p tag n false => rw [barrierDone_live own, table_setPort, fill_setPort]; exact ⟨rfl, rfl⟩
    | .port p tag n true =>
      have := live y List.mem_cons_self
      rw [own] at this
      cases this

/-- A pass that frees no orphan leaves the table sound. -/
theorem tableSound_reevaluatePass (h : Loose [] s) (live : ∀ y ∈ s.barriersToComplete, y.2.owner.isOrphan = false) :
    s.reevaluatePass.tableSound := by
  refine tableSound_iff.2 ⟨h.reevaluatePass, fun x hx => ?_⟩
  obtain ⟨table, fill⟩ := table_foldl_barrierDone _ (reheldState s) live
  rw [reevaluatePass_eq, table] at hx
  rw [reevaluatePass_eq, table, fill]
  exact heldRight_reheldState s x hx

theorem length_clearSlot_lt (w : Sparse.Wf s.table) (he : s.entry k = some e) :
    (s.clearSlot k).table.length < s.table.length :=
  List.length_filter_lt_length_iff_exists.2 ⟨(k, e), (mem_table w (x := (k, e))).2 he, by simp⟩

theorem length_barrierDone_le (s : State) (y : Nat × Entry) : (s.barrierDone y.1 y.2).table.length ≤ s.table.length := by
  match own : y.2.owner with
  | .maintenance => rw [barrierDone_maintenance own]
  | .port p tag n false => rw [barrierDone_live own, table_setPort]
  | .port p tag n true =>
    rw [barrierDone_orphan own]
    cases he : s.entry y.1 with
    | none =>
      unfold State.freeSlotOf
      rw [he]
    | some x =>
      rw [(beside_freeSlotOf he).table]
      exact List.length_filter_le _ _

theorem length_foldl_barrierDone_le (finished : List (Nat × Entry)) (s : State) :
    (finished.foldl (fun s x => s.barrierDone x.1 x.2) s).table.length ≤ s.table.length := by
  induction finished generalizing s with
  | nil => exact Nat.le_refl _
  | cons y rest ih => exact Nat.le_trans (ih _) (length_barrierDone_le s y)

theorem wf_barrierDone (w : Sparse.Wf s.table) (y : Nat × Entry) : Sparse.Wf (s.barrierDone y.1 y.2).table := by
  match own : y.2.owner with
  | .maintenance => rw [barrierDone_maintenance own]; exact w
  | .port p tag n false => rw [barrierDone_live own, table_setPort]; exact w
  | .port p tag n true =>
    rw [barrierDone_orphan own]
    cases he : s.entry y.1 with
    | none =>
      unfold State.freeSlotOf
      rw [he]
      exact w
    | some x =>
      rw [(beside_freeSlotOf he).table]
      exact Sparse.wf_erase w _

/-- A pass that frees an orphan leaves fewer entries. -/
theorem length_foldl_barrierDone_lt (finished : List (Nat × Entry)) (w : Sparse.Wf s.table)
    (nodup : (finished.map Prod.fst).Nodup) (found : ∀ y ∈ finished, ∃ e, s.entry y.1 = some e)
    (orphan : ∃ y ∈ finished, y.2.owner.isOrphan = true) :
    (finished.foldl (fun s x => s.barrierDone x.1 x.2) s).table.length < s.table.length := by
  induction finished generalizing s with
  | nil =>
    obtain ⟨y, hy, -⟩ := orphan
    cases hy
  | cons y rest ih =>
    rw [List.map_cons, List.nodup_cons] at nodup
    obtain ⟨new, nodup⟩ := nodup
    by_cases mine : y.2.owner.isOrphan = true
    · obtain ⟨e, he⟩ := found y List.mem_cons_self
      refine Nat.lt_of_le_of_lt (length_foldl_barrierDone_le rest _) ?_
      match own : y.2.owner with
      | .maintenance => rw [own] at mine; cases mine
      | .port p tag n false => rw [own] at mine; cases mine
      | .port p tag n true =>
        simp only [barrierDone_orphan own, (beside_freeSlotOf he).table]
        exact length_clearSlot_lt w he
    · refine Nat.lt_of_lt_of_le (ih (wf_barrierDone w y) nodup (fun z hz => ?_) ?_) (length_barrierDone_le s y)
      · rw [entry_barrierDone_of_ne s y fun same => new (same ▸ List.mem_map_of_mem hz)]
        exact found z (List.mem_cons_of_mem _ hz)
      · obtain ⟨z, hz, own⟩ := orphan
        rcases List.mem_cons.1 hz with rfl | hz
        · exact absurd own mine
        · exact ⟨z, hz, own⟩

theorem length_reevaluatePass_lt (w : Sparse.Wf s.table) (orphan : ∃ y ∈ s.barriersToComplete, y.2.owner.isOrphan = true) :
    s.reevaluatePass.table.length < s.table.length := by
  refine Nat.lt_of_lt_of_le (length_foldl_barrierDone_lt (s := reheldState s) _ (Sparse.wf_map w (reheldIn s))
    (nodup_barriersToComplete w) (fun y hy => ?_) orphan) (Nat.le_of_eq (List.length_map _))
  obtain ⟨e, he, -⟩ := done_reheldState w hy
  exact ⟨e, he⟩

/-- The passes end: each but the last frees an entry. -/
theorem tableSound_reevaluateFor (n : Nat) (h : Loose [] s) (few : s.table.length ≤ n) : (reevaluateFor n s).tableSound := by
  induction n generalizing s with
  | zero =>
    refine tableSound_reevaluatePass h fun y hy => ?_
    have listed : y ∈ s.table := (mem_barriersToComplete.1 hy).1
    rw [List.eq_nil_of_length_eq_zero (Nat.le_zero.1 few)] at listed
    cases listed
  | succ n ih =>
    unfold reevaluateFor
    split
    · next orphan =>
      have fewer := length_reevaluatePass_lt h.wf (List.any_eq_true.1 orphan)
      exact ih h.reevaluatePass (by omega)
    · next live =>
      refine tableSound_reevaluatePass h fun y hy => Bool.eq_false_of_not_eq_true fun own => live ?_
      exact List.any_eq_true.2 ⟨y, hy, own⟩

/-- Re-evaluation restores soundness. -/
theorem tableSound_reevaluate (h : Loose [] s) : s.reevaluate.tableSound := tableSound_reevaluateFor _ h (Nat.le_refl _)

end Sys2Proof.Machine.Table

end

section
/-! Entries that come and go: a record replaced by its like, a record new, the entries of a fill, an access's end. -/

namespace Sys2Proof.Machine.Table

open Sys2Proof.Machine.Steps Sys2Proof.Machine.Accounts Sys2Proof.Machine.Schedule Sys2Proof.Machine.Upkeep

variable {s t u : State} {p : Port} {L : List Nat} {k : Nat} {e x : Entry}

/-! ### A record replaced by its like (R37) -/

/-- The record of a slot is replaced by its like, both out of HELD; the slot is open after it. -/
theorem Loose.replace (h : Loose L s) (he : s.entry k = some x) (like : Alike x e) (out : x.state ≠ .held)
    (fields : e.fieldsPresent) (unlisted : ∀ p, ¬ Listed x p)
    (flight : NotInFlight s k ∨ e.state = .inAccess ∨ e.state = .inUpdate) : Loose (k :: L) (s.setEntry k e) where
  wf := Sparse.wf_insert h.wf k e
  ages := by
    have mem := (mem_table h.wf (x := (k, x))).2 he
    refine ⟨fun y hy => ?_, fun y hy z hz ne => ?_, fun f hf => ?_⟩
    · rcases (mem_insert_iff h.wf).1 hy with rfl | ⟨hy, -⟩
      · exact like.age ▸ h.ages.below _ mem
      · exact h.ages.below y hy
    · rcases (mem_insert_iff h.wf).1 hy with rfl | ⟨hy, hyk⟩ <;> rcases (mem_insert_iff h.wf).1 hz with rfl | ⟨hz, hzk⟩
      · exact absurd rfl ne
      · exact like.age ▸ like.first ▸ h.ages.apart _ mem z hz ne
      · exact like.age ▸ like.first ▸ h.ages.apart y hy _ mem ne
      · exact h.ages.apart y hy z hz ne
    · obtain ⟨age, cursor, whole, mine⟩ := h.ages.fill f hf
      refine ⟨age, cursor, whole, fun y hy => ?_⟩
      rcases (mem_insert_iff h.wf).1 hy with rfl | ⟨hy, -⟩
      · exact like.age ▸ like.first ▸ like.count ▸ mine _ mem
      · exact mine y hy
  replies q := by
    obtain ⟨nodup, mem⟩ := (h.open_ (k := k) fun y q hy => by rw [he] at hy; cases hy; exact unlisted q).replies q
    refine ⟨nodup, fun j => (mem j).trans (and_congr_right fun hj => ?_)⟩
    have ne : j ≠ k := fun same => hj (List.mem_cons.2 (.inl same))
    rw [entry_setEntry_of_ne s e ne]
  flight f j hf hj := by
    obtain ⟨y, hy, state⟩ := h.flight f j hf hj
    by_cases same : j = k
    · subst same
      exact ⟨e, entry_setEntry_self s j e, flight.resolve_left fun none => none f hf hj⟩
    · exact ⟨y, by rw [entry_setEntry_of_ne s e same]; exact hy, state⟩
  free y hy state := by
    have mem := (mem_table h.wf (x := (k, x))).2 he
    rcases (mem_insert_iff h.wf).1 hy with rfl | ⟨hy, -⟩
    · exact isEmpty_mono like.symm (olderIn_replace h.wf he like _).2 (by rw [fillHolds_congr like]; exact id)
        (h.free _ mem out)
    · exact isEmpty_mono (.refl _) (olderIn_replace h.wf he like _).2 id (h.free y hy state)
  records y hy := by
    rcases (mem_insert_iff h.wf).1 hy with rfl | ⟨hy, -⟩
    · exact fields
    · exact h.records y hy

theorem HeldRight.replace (h : HeldRight s) (w : Sparse.Wf s.table) (he : s.entry k = some x) (like : Alike x e)
    (out : e.state ≠ .held) : HeldRight (s.setEntry k e) := by
  intro y hy held
  rcases (mem_insert_iff w).1 hy with rfl | ⟨hy, -⟩
  · exact absurd held out
  · obtain ⟨recorded, some⟩ := h y hy held
    have same : holdsOf (s.setEntry k e).table (s.setEntry k e).fill y.2 = holdsOf s.table s.fill y.2 :=
      holdsOf_congr (.refl _) (olderIn_replace w he like _).2 (olderIn_replace w he like _).1 rfl
    rw [same]
    exact ⟨recorded, some⟩

/-! ### A new record (R31) -/

/-- A record new to the table: its age is in use by no other of its place, and it holds back no entry out of HELD. -/
structure NewTo (s : State) (e : Entry) : Prop where
  below : e.age < s.ageCounter
  apart : ∀ x ∈ s.table, e.age ≠ x.2.age ∨ e.first ≠ x.2.first
  fill : ∀ f, s.fill = some f → e.age = f.age → e.first < f.cursor ∧ e.first + e.count ≤ f.cursor
  behind : ∀ x ∈ s.table, x.2.state ≠ .held → holdsBack e x.2 = false
  free : e.state ≠ .held → (holdsOf s.table s.fill e).isEmpty = true
  fields : e.fieldsPresent

theorem older_self (e : Entry) : e.older e = false := by
  unfold Entry.older
  exact decide_eq_false (by omega)

theorem holdsBack_self (e : Entry) : holdsBack e e = false := by
  unfold holdsBack
  rw [older_self]
  rfl

/-- A new record joins the table in a FREE slot, which is open after it. -/
theorem Loose.insert (h : Loose L s) (free : s.entry k = none) (new : NewTo s e) : Loose (k :: L) (s.setEntry k e) where
  wf := Sparse.wf_insert h.wf k e
  ages := by
    refine ⟨fun y hy => ?_, fun y hy z hz ne => ?_, fun f hf => ?_⟩
    · rcases (mem_insert_iff h.wf).1 hy with rfl | ⟨hy, -⟩
      · exact new.below
      · exact h.ages.below y hy
    · rcases (mem_insert_iff h.wf).1 hy with rfl | ⟨hy, hyk⟩ <;> rcases (mem_insert_iff h.wf).1 hz with rfl | ⟨hz, hzk⟩
      · exact absurd rfl ne
      · exact new.apart z hz
      · exact (new.apart y hy).imp Ne.symm Ne.symm
      · exact h.ages.apart y hy z hz ne
    · obtain ⟨age, cursor, whole, mine⟩ := h.ages.fill f hf
      refine ⟨age, cursor, whole, fun y hy => ?_⟩
      rcases (mem_insert_iff h.wf).1 hy with rfl | ⟨hy, -⟩
      · exact new.fill f hf
      · exact mine y hy
  replies q := by
    obtain ⟨nodup, mem⟩ := (h.open_ (k := k) fun y q hy => by rw [free] at hy; cases hy).replies q
    refine ⟨nodup, fun j => (mem j).trans (and_congr_right fun hj => ?_)⟩
    have ne : j ≠ k := fun same => hj (List.mem_cons.2 (.inl same))
    rw [entry_setEntry_of_ne s e ne]
  flight f j hf hj := by
    obtain ⟨y, hy, state⟩ := h.flight f j hf hj
    refine ⟨y, ?_, state⟩
    rw [entry_setEntry_of_ne s e fun same => by rw [same, free] at hy; cases hy]
    exact hy
  free y hy state := by
    refine isEmpty_holdsOf_iff.2 ?_
    rcases (mem_insert_iff h.wf).1 hy with rfl | ⟨hy, -⟩
    · obtain ⟨back, fill⟩ := isEmpty_holdsOf_iff.1 (new.free state)
      refine ⟨fun z hz => ?_, fill⟩
      rcases (mem_insert_iff h.wf).1 hz with rfl | ⟨hz, -⟩
      · exact holdsBack_self e
      · exact back z hz
    · obtain ⟨back, fill⟩ := isEmpty_holdsOf_iff.1 (h.free y hy state)
      refine ⟨fun z hz => ?_, fill⟩
      rcases (mem_insert_iff h.wf).1 hz with rfl | ⟨hz, -⟩
      · exact new.behind y hy state
      · exact back z hz
  records y hy := by
    rcases (mem_insert_iff h.wf).1 hy with rfl | ⟨hy, -⟩
    · exact new.fields
    · exact h.records y hy

/-- The recorded reasons stay right when the new record is older than no other. -/
theorem HeldRight.insert (h : HeldRight s) (w : Sparse.Wf s.table) (free : s.entry k = none)
    (young : ∀ x ∈ s.table, e.older x.2 = false)
    (own : e.state = .held → e.holds = holdsOf s.table s.fill e ∧ e.holds.isEmpty = false) : HeldRight (s.setEntry k e) := by
  have same : ∀ z : Entry, e.older z = false →
      holdsOf (s.setEntry k e).table (s.setEntry k e).fill z = holdsOf s.table s.fill z := fun z hz =>
    holdsOf_congr (.refl _) (olderIn_insert_new w free hz).2 (olderIn_insert_new w free hz).1 rfl
  intro y hy held
  rcases (mem_insert_iff w).1 hy with rfl | ⟨hy, -⟩
  · rw [same e (older_self e)]
    exact own held
  · rw [same y.2 (young y hy)]
    exact h y hy held

/-! ### The record a new entry takes -/

theorem newEntry_fields (s : State) (owner : Owner) (kind : EntryKind) (first count age : Nat) (data : List (List Byte)) :
    let e := s.newEntry owner kind first count age data
    e.owner = owner ∧ e.kind = kind ∧ e.first = first ∧ e.count = count ∧ e.age = age ∧ e.writeBack = [] ∧
      e.holds = holdsOf s.table s.fill e ∧
      e.state = if e.holds.isEmpty = false then .held else if kind = .barrier then .done else .queued := by
  intro e
  obtain ⟨record, holds, state⟩ := Frames.newEntry_record s owner kind first count age data
  refine ⟨?_, ?_, ?_, ?_, ?_, ?_, holds, state⟩ <;> rw [show e = _ from record]

/-- What is new of the record of a new entry, wherever its age stands. -/
theorem newEntry_state (s : State) (owner : Owner) (kind : EntryKind) (first count age : Nat) (data : List (List Byte))
    (range : kind = .barrier → first = 0 ∧ count = 0) :
    let e := s.newEntry owner kind first count age data
    e.fieldsPresent ∧ (e.state ≠ .held → (holdsOf s.table s.fill e).isEmpty = true) ∧
      (e.state = .held → e.holds = holdsOf s.table s.fill e ∧ e.holds.isEmpty = false) := by
  intro e
  obtain ⟨-, hkind, hfirst, hcount, -, hset, holds, state⟩ := newEntry_fields s owner kind first count age data
  have out : e.state ≠ .held → e.holds.isEmpty = true := fun ne => by
    by_contra some
    exact ne (state.trans (if_pos (Bool.eq_false_of_not_eq_true some)))
  have held : e.state = .held → e.holds.isEmpty = false := fun isHeld => by
    refine Bool.eq_false_of_not_eq_true fun empty => ?_
    rw [state, if_neg (by rw [empty]; exact nofun)] at isHeld
    split at isHeld <;> cases isHeld
  have notUpdate : e.state ≠ .inUpdate := by
    rw [state]
    split
    · exact nofun
    · split <;> exact nofun
  refine ⟨⟨fun barrier => ?_, ?_, out⟩, fun ne => holds ▸ out ne, fun isHeld => ⟨holds, held isHeld⟩⟩
  · rw [hfirst, hcount]
    exact range (hkind.symm.trans barrier)
  · rw [hset]
    exact ⟨fun h => absurd rfl h, fun h => absurd h notUpdate⟩

/-- A record with the newest age is older than none. -/
theorem older_newest (ages : Ages s) {y : Nat × Entry} (hy : y ∈ s.table) (age : e.age = s.ageCounter) :
    e.older y.2 = false := by
  have := ages.below y hy
  unfold Entry.older
  exact decide_eq_false (by omega)

theorem place_of_not_done (s : State) (k : Nat) (e : Entry) (h : e.state ≠ .done) : s.place k e = s.setEntry k e :=
  if_neg h

/-- An age is handed out (R25). -/
theorem Loose.takeAge (h : Loose L s) : Loose L s.takeAge := by
  refine ⟨h.wf, ⟨fun x hx => Nat.lt_succ_of_lt (h.ages.below x hx), h.ages.apart, fun f hf => ?_⟩, h.replies, h.flight,
    h.free, h.records⟩
  obtain ⟨age, rest⟩ := h.ages.fill f hf
  exact ⟨Nat.lt_succ_of_lt age, rest⟩

/-- A new entry with the newest age placed in a FREE slot. -/
theorem tableSound_placeNewest (h : s.tableSound) (free : s.entry k = none) (owner : Owner) (kind : EntryKind)
    (first count : Nat) (data : List (List Byte)) (range : kind = .barrier → first = 0 ∧ count = 0)
    (live : kind = .barrier → ∃ p tag n, owner = .port p tag n false) :
    (s.takeAge.place k (s.newEntry owner kind first count s.ageCounter data)).tableSound := by
  obtain ⟨loose, right⟩ := tableSound_iff.1 h
  obtain ⟨hown, hkind, hfirst, hcount, hage, -, holds, state⟩ := newEntry_fields s owner kind first count s.ageCounter data
  obtain ⟨fields, out, held⟩ := newEntry_state s owner kind first count s.ageCounter data range
  generalize s.newEntry owner kind first count s.ageCounter data = e at *
  have young : ∀ x ∈ s.table, e.older x.2 = false := fun x hx => older_newest loose.ages hx hage
  have aged := loose.takeAge
  have new : NewTo s.takeAge e := by
    refine ⟨hage ▸ Nat.lt_succ_self _, fun x hx => .inl ?_, fun f hf same => ?_, fun x hx _ => ?_, out, fields⟩
    · rw [hage]
      exact Nat.ne_of_gt (loose.ages.below x hx)
    · have := (loose.ages.fill f hf).1
      omega
    · unfold holdsBack
      rw [young x hx]
      rfl
  have inserted := aged.insert free new
  have rightAfter : HeldRight (s.takeAge.setEntry k e) := HeldRight.insert (s := s.takeAge) right loose.wf free young held
  by_cases done : e.state = .done
  · have barrier : kind = .barrier := by
      by_contra other
      rw [done, if_neg other] at state
      split at state <;> cases state
    obtain ⟨p, tag, n, own⟩ := live barrier
    rw [place_port _ k (hown.trans own), if_pos done]
    refine tableSound_iff.2 ⟨inserted.list List.not_mem_nil (entry_setEntry_self _ k e) ⟨done, tag, n, hown.trans own⟩ ?_,
      fun y hy => ?_⟩
    · rfl
    · rw [table_setPort] at hy ⊢
      rw [fill_setPort]
      exact rightAfter y hy
  · rw [place_of_not_done _ k e done]
    exact tableSound_iff.2 ⟨inserted.close fun y q hy listed => by
      rw [entry_setEntry_self] at hy
      cases hy
      exact done listed.1, rightAfter⟩

/-! ### Admissions (R27, R30, R108, R109) -/

theorem tableSound_admission (h : s.tableSound) (free : s.entry k = none) (p : Port) (tag : Byte) (r : MemRequest) :
    (s.admission p tag r k).tableSound := by
  have range : memEntryKind r = .barrier → ((memRange r).getD (0, 0)).1 = 0 ∧ ((memRange r).getD (0, 0)).2 = 0 := by
    cases r with
    | barrier => exact fun _ => ⟨rfl, rfl⟩
    | _ => exact nofun
  exact tableSound_of_beside (tableSound_placeNewest h free _ _ _ _ _ range fun _ => ⟨p, tag, (s.port p).session, rfl⟩)
    ((beside_endNap _).trans (beside_removeVote _ p))

theorem tableSound_takeStep (h : s.tableSound) (free : s.entry k = none) : (s.takeStep k).tableSound := by
  have placed := tableSound_placeNewest h free .maintenance .scrub (8 * s.scrub.cursor) 8 [] nofun nofun
  exact tableSound_of_beside (tableSound_of_beside placed (beside_endNap _)) .of

theorem stepSlot_free (h : s.stepSlot = some k) : s.entry k = none := by
  unfold State.stepSlot at h
  split at h
  · cases h
  · exact (maintenanceSlot_new h).1

theorem tableSound_takePendingStep (h : s.tableSound) : s.takePendingStep.tableSound := by
  unfold State.takePendingStep
  split
  · split
    · next slot chosen => exact tableSound_of_beside (tableSound_takeStep h (stepSlot_free chosen)) .of
    · exact h
  · exact h

theorem tableSound_stepFallsDue (h : s.tableSound) : s.stepFallsDue.tableSound := by
  unfold State.stepFallsDue
  split
  · next slot chosen => exact tableSound_takeStep h (stepSlot_free chosen)
  · exact tableSound_of_beside h .of

end Sys2Proof.Machine.Table

end

section
/-! The table through an access's end, the entries of a fill, and a link-down. -/

namespace Sys2Proof.Machine.Table

open Sys2Proof.Machine.Steps Sys2Proof.Machine.Accounts Sys2Proof.Machine.Schedule Sys2Proof.Machine.Upkeep

variable {s t u : State} {p : Port} {L : List Nat} {k : Nat} {e x : Entry}

/-! ### The fill (R112 to R116) -/

/-- A fill's range in order, and its entries below the cursor. -/
def FillInOrder (s : State) (f : Fill) : Prop :=
  f.age < s.ageCounter ∧ f.cursor ≤ f.first + f.count ∧ (f.first + f.count - f.cursor) % 8 = 0 ∧
    ∀ x ∈ s.table, x.2.age = f.age → x.2.first < f.cursor ∧ x.2.first + x.2.count ≤ f.cursor

/-- The fill record changes, holding no entry out of HELD that it did not hold. -/
theorem Loose.setFill (h : Loose L s) {F : Option Fill} (order : ∀ f, F = some f → FillInOrder s f)
    (less : ∀ x ∈ s.table, fillHolds F x.2 = true → fillHolds s.fill x.2 = true) : Loose L { s with fill := F } where
  wf := h.wf
  ages := ⟨h.ages.below, h.ages.apart, order⟩
  replies := h.replies
  flight := h.flight
  free x hx state := isEmpty_mono (.refl _) (olderIn_of_subset (fun _ hy => hy) _) (less x hx) (h.free x hx state)
  records := h.records

theorem Loose.removeFill (h : Loose [] s) : s.removeFill.tableSound :=
  tableSound_takePendingStep (tableSound_reevaluate (h.setFill (F := none) nofun (fun _ _ k => by cases k)))

theorem fillHolds_eq_true {f : Fill} : fillHolds (some f) e = true ↔
    f.age < e.age ∧ max e.first f.cursor < min (e.first + e.count) (f.cursor + (f.first + f.count - f.cursor)) := by
  unfold fillHolds rangesOverlap
  rw [Bool.and_eq_true, decide_eq_true_iff, decide_eq_true_iff]

/-- The record of a FILL entry is new to the table once the cursor stands past it. -/
theorem newTo_fill (h : Loose [] s) {f : Fill} (hf : s.fill = some f) (below : f.cursor < f.first + f.count)
    (owner : e.owner = .maintenance) (kind : e.kind = .fill) (first : e.first = f.cursor) (count : e.count = 8)
    (age : e.age = f.age) (set : e.writeBack = []) (holds : e.holds = holdsOf s.table s.fill e)
    (state : e.state = if e.holds.isEmpty then .queued else .held) (n : Nat) :
    NewTo { s with fill := some { f with cursor := f.cursor + 8, inFlight := n } } e := by
  obtain ⟨counter, low, whole, mine⟩ := h.ages.fill f hf
  have within : f.cursor + 8 ≤ f.first + f.count := by omega
  have out : e.state ≠ .held → e.holds.isEmpty = true := fun ne => by
    by_contra some
    exact ne (state.trans (if_neg some))
  refine ⟨age ▸ counter, fun y hy => ?_, fun g hg _ => ?_, fun y hy free => ?_, fun ne => ?_, fun barrier => ?_, ?_, out⟩
  · by_cases same : e.age = y.2.age
    · have := (mine y hy (same.symm.trans age)).1
      exact .inr (by omega)
    · exact .inl same
  · cases hg
    simp only
    omega
  · unfold holdsBack
    rw [sameSession_eq, owner]
    have apart : (e.older y.2 && (e.overlaps y.2 && !(e.readClass && y.2.readClass))) = false := by
      refine Bool.eq_false_of_not_eq_true fun both => ?_
      rw [Bool.and_eq_true, Bool.and_eq_true] at both
      obtain ⟨older, overlap, -⟩ := both
      have overlap : max e.first y.2.first < min (e.first + e.count) (y.2.first + y.2.count) := of_decide_eq_true overlap
      rcases (older_iff _ _).1 older with younger | ⟨same, lower⟩
      · have unheld := (isEmpty_holdsOf_iff.1 (h.free y hy free)).2
        rw [hf] at unheld
        have held : fillHolds (some f) y.2 = true := fillHolds_eq_true.2 ⟨by omega, by omega⟩
        rw [held] at unheld
        cases unheld
      · have := (mine y hy (by omega)).1
        omega
    rw [Bool.and_or_distrib_left, apart]
    simp [sessionOf]
  · have empty := out ne
    rw [holds, hf] at empty
    exact isEmpty_mono (.refl _) (olderIn_of_subset (fun _ hy => hy) _)
      (fun k => by have := (fillHolds_eq_true.1 k).1; simp only at this; omega) empty
  · rw [kind] at barrier
    cases barrier
  · rw [set]
    refine ⟨fun h => absurd rfl h, fun update => ?_⟩
    rw [state] at update
    split at update <;> cases update

theorem Loose.createFillEntry (h : Loose [] s) : Loose [] s.createFillEntry := by
  cases hf : s.fill with
  | none =>
    unfold State.createFillEntry
    rw [hf]
    exact h
  | some f =>
    by_cases may : f.aborting = false ∧ f.cursor < f.first + f.count ∧ f.inFlight < 3 ∧ ∃ j, s.freeSlot 96 4 = some j
    · obtain ⟨running, below, few, j, free⟩ := may
      obtain ⟨y, record, holds, state, eq⟩ := createFillEntry_eq hf running below few free
      have new : NewTo { s with fill := some { f with cursor := f.cursor + 8, inFlight := f.inFlight + 1 } } y :=
        newTo_fill h hf below (by rw [record]) (by rw [record]) (by rw [record]) (by rw [record]) (by rw [record])
          (by rw [record]) holds state _
      obtain ⟨counter, low, whole, mine⟩ := h.ages.fill f hf
      have moved : Loose [] { s with fill := some { f with cursor := f.cursor + 8, inFlight := f.inFlight + 1 } } := by
        refine h.setFill (fun g hg => ?_) fun z _ k => ?_
        · cases hg
          refine ⟨counter, ?_, ?_, fun z hz same => ?_⟩
          · simp only
            omega
          · simp only
            omega
          · have := mine z hz same
            simp only
            omega
        · obtain ⟨younger, overlap⟩ := fillHolds_eq_true.1 k
          rw [hf]
          simp only at overlap younger
          exact fillHolds_eq_true.2 ⟨younger, by omega⟩
      obtain ⟨-, -, vacant, -⟩ := freeSlot_eq_some free
      rw [eq]
      refine ((moved.insert vacant new).close fun z q hz listed => ?_).beside .of
      rw [entry_setEntry_self] at hz
      cases hz
      have done : y.state = .done := listed.1
      rw [state] at done
      split at done <;> cases done
    · have same : s.createFillEntry = s := by
        unfold State.createFillEntry
        rw [hf]
        simp only
        split
        · next can =>
          split
          · rfl
          · next j chosen =>
            simp only [Bool.and_eq_true, Bool.not_eq_true', decide_eq_true_eq] at can
            exact absurd ⟨can.1.1, can.1.2, can.2, j, chosen⟩ may
        · rfl
      rw [same]
      exact h

theorem Loose.createFillEntries (h : Loose [] s) : Loose [] s.createFillEntries :=
  h.createFillEntry.createFillEntry.createFillEntry

/-! ### A link-down (R42) -/

theorem alike_orphaned (e : Entry) (p : Port) : Alike e (e.orphanedAtDown p) := by
  unfold Entry.orphanedAtDown
  split
  · next own => exact ⟨rfl, rfl, rfl, rfl, by rw [own]; rfl⟩
  · exact .refl e

/-- What an orphaning leaves: all but the owner's orphan mark. -/
theorem orphaned_fields (e : Entry) (p : Port) : (e.orphanedAtDown p).state = e.state ∧
    (e.orphanedAtDown p).holds = e.holds ∧ (e.orphanedAtDown p).writeBack = e.writeBack := by
  unfold Entry.orphanedAtDown
  split <;> exact ⟨rfl, rfl, rfl⟩

theorem fieldsPresent_orphaned (fields : e.fieldsPresent) (p : Port) : (e.orphanedAtDown p).fieldsPresent := by
  obtain ⟨state, holds, set⟩ := orphaned_fields e p
  have like := alike_orphaned e p
  unfold Entry.fieldsPresent
  rw [state, holds, set, ← like.kind, ← like.first, ← like.count]
  exact fields

/-- An entry out of DONE is not dropped. -/
theorem droppedAtDown_of_not_done (state : e.state ≠ .done) (p : Port) : e.droppedAtDown p = false := by
  unfold Entry.droppedAtDown
  split
  · simp [state]
  · rfl

/-- No entry of the port is listed after the orphaning; one of the other port as before. -/
theorem listed_orphaned {q : Port} : Listed (e.orphanedAtDown p) q ↔ Listed e q ∧ q ≠ p := by
  unfold Listed
  rw [(orphaned_fields e p).1, and_assoc]
  refine and_congr_right fun _ => ?_
  unfold Entry.orphanedAtDown
  cases own : e.owner with
  | maintenance => simp [own]
  | port r tag n o =>
    simp only [Owner.port.injEq, Bool.or_eq_false_iff, decide_eq_false_iff_not]
    constructor
    · rintro ⟨_, _, rfl, rfl, rfl, rfl, ne⟩
      exact ⟨⟨tag, n, rfl, rfl, rfl, rfl⟩, ne⟩
    · rintro ⟨⟨_, _, rfl, rfl, rfl, rfl⟩, ne⟩
      exact ⟨tag, n, rfl, rfl, rfl, rfl, ne⟩

/-- The state of a link-down before the holds are worked out afresh: the DONE entries gone, the others orphans. -/
def orphanedState (s : State) (p : Port) : State :=
  { s.setPort p { s.port p with session := (s.port p).session + 1, replies := [] } with
    table := Sparse.map (fun _ e => e.orphanedAtDown p) (s.table.filter fun x => !x.2.droppedAtDown p) }

theorem orphanPort_eq (s : State) (p : Port) : s.orphanPort p = (orphanedState s p).reevaluate := by
  cases p <;> rfl

theorem mem_orphanedState {y : Nat × Entry} : y ∈ (orphanedState s p).table ↔
    ∃ x ∈ s.table, x.2.droppedAtDown p = false ∧ y = (x.1, x.2.orphanedAtDown p) := by
  refine (mem_map_iff (f := fun _ e => e.orphanedAtDown p)).trans (exists_congr fun x => ?_)
  rw [List.mem_filter, Bool.not_eq_true', and_assoc]

theorem entry_orphanedState (w : Sparse.Wf s.table) (p : Port) (k : Nat) : (orphanedState s p).entry k =
    ((s.entry k).filter fun e => !e.droppedAtDown p).map fun e => e.orphanedAtDown p := by
  refine (Sparse.find?_map _ (fun _ e => Entry.orphanedAtDown e p) k).trans ?_
  rw [find?_filter w]
  rfl

/-- An entry that stays stays as an orphan, or as it was. -/
theorem entry_orphanedState_of (w : Sparse.Wf s.table) (he : s.entry k = some e) (stays : e.droppedAtDown p = false) :
    (orphanedState s p).entry k = some (e.orphanedAtDown p) := by
  rw [entry_orphanedState w, he, Option.filter_some, stays]
  rfl

theorem entry_orphanedState_some (w : Sparse.Wf s.table) (he : (orphanedState s p).entry k = some e) :
    ∃ x, s.entry k = some x ∧ x.droppedAtDown p = false ∧ e = x.orphanedAtDown p := by
  rw [entry_orphanedState w] at he
  obtain ⟨x, hx, rfl⟩ := Option.map_eq_some_iff.1 he
  obtain ⟨hx, stays⟩ := Option.filter_eq_some_iff.1 hx
  exact ⟨x, hx, (Bool.not_eq_true' _).mp stays, rfl⟩

theorem fill_orphanedState (s : State) (p : Port) : (orphanedState s p).fill = s.fill := by cases p <;> rfl

theorem olderIn_orphanedState (s : State) (p : Port) (e : Entry) : OlderIn (orphanedState s p).table s.table e :=
  fun y hy _ => by
    obtain ⟨x, hx, -, rfl⟩ := mem_orphanedState.1 hy
    exact ⟨x, hx, (alike_orphaned x.2 p).symm⟩

theorem Loose.orphanedState (h : Loose [] s) (p : Port) : Loose [] (orphanedState s p) where
  wf := Sparse.wf_map (Sparse.wf_filter h.wf fun x => !x.2.droppedAtDown p) fun _ e => e.orphanedAtDown p
  ages := by
    have counter : (Table.orphanedState s p).ageCounter = s.ageCounter := by cases p <;> rfl
    refine ⟨fun y hy => ?_, fun y hy z hz ne => ?_, fun f hf => ?_⟩
    · obtain ⟨x, hx, -, rfl⟩ := mem_orphanedState.1 hy
      rw [counter, ← (alike_orphaned x.2 p).age]
      exact h.ages.below x hx
    · obtain ⟨x, hx, -, rfl⟩ := mem_orphanedState.1 hy
      obtain ⟨w, hw, -, rfl⟩ := mem_orphanedState.1 hz
      rw [← (alike_orphaned x.2 p).age, ← (alike_orphaned w.2 p).age, ← (alike_orphaned x.2 p).first,
        ← (alike_orphaned w.2 p).first]
      exact h.ages.apart x hx w hw ne
    · rw [fill_orphanedState] at hf
      obtain ⟨age, cursor, whole, mine⟩ := h.ages.fill f hf
      refine ⟨counter ▸ age, cursor, whole, fun y hy => ?_⟩
      obtain ⟨x, hx, -, rfl⟩ := mem_orphanedState.1 hy
      rw [← (alike_orphaned x.2 p).age, ← (alike_orphaned x.2 p).first, ← (alike_orphaned x.2 p).count]
      exact mine x hx
  replies q := by
    obtain ⟨nodup, mem⟩ := h.replies q
    have mine : ((Table.orphanedState s p).port q).replies = if q = p then [] else (s.port q).replies := by
      cases p <;> cases q <;> rfl
    rw [mine]
    by_cases same : q = p
    · rw [if_pos same]
      refine ⟨List.nodup_nil, fun j => ⟨fun hj => (List.not_mem_nil hj).elim, fun ⟨_, y, hy, listed⟩ => ?_⟩⟩
      obtain ⟨x, -, -, rfl⟩ := entry_orphanedState_some h.wf hy
      exact absurd same (listed_orphaned.1 listed).2
    · rw [if_neg same]
      refine ⟨nodup, fun j => (mem j).trans
        (and_congr_right fun _ => ⟨fun ⟨x, hx, listed⟩ => ?_, fun ⟨y, hy, listed⟩ => ?_⟩)⟩
      · have stays : x.droppedAtDown p = false := by
          obtain ⟨-, tag, n, own⟩ := listed
          unfold Entry.droppedAtDown
          rw [own]
          simp [same]
        exact ⟨_, entry_orphanedState_of h.wf hx stays, listed_orphaned.2 ⟨listed, same⟩⟩
      · obtain ⟨x, hx, -, rfl⟩ := entry_orphanedState_some h.wf hy
        exact ⟨x, hx, (listed_orphaned.1 listed).1⟩
  flight f j hf hj := by
    have path : (Table.orphanedState s p).path = s.path := by cases p <;> rfl
    rw [path] at hf
    obtain ⟨x, hx, state⟩ := h.flight f j hf hj
    have stays : x.droppedAtDown p = false :=
      droppedAtDown_of_not_done (by rcases state with k | k <;> rw [k] <;> exact nofun) p
    exact ⟨_, entry_orphanedState_of h.wf hx stays, by rw [(orphaned_fields x p).1]; exact state⟩
  free y hy state := by
    obtain ⟨x, hx, -, rfl⟩ := mem_orphanedState.1 hy
    rw [fill_orphanedState]
    refine isEmpty_mono (alike_orphaned x.2 p).symm (olderIn_orphanedState s p _)
      (by rw [fillHolds_congr (alike_orphaned x.2 p)]; exact id) (h.free x hx ?_)
    rw [← (orphaned_fields x.2 p).1]
    exact state
  records y hy := by
    obtain ⟨x, hx, -, rfl⟩ := mem_orphanedState.1 hy
    exact fieldsPresent_orphaned (h.records x hx) p

theorem beside_dropRequests (s : State) (p : Port) : Beside s (s.dropRequests p) := by
  refine .of (fill := ?_)
  unfold State.dropRequests
  simp only [Option.map_map]
  refine Option.map_congr fun f _ => ?_
  simp only [Function.comp_apply]
  split <;> rfl

theorem tableSound_linkDown (h : s.tableSound) (p : Port) (why : DownReason) : (s.linkDown p why).tableSound := by
  unfold State.linkDown
  split
  · simp only
    generalize hu : (if downFrameSent why = true then _ else s : State) = u
    have told : Beside s u := by
      subst hu
      split
      · exact beside_emit s p _
      · exact .refl s
    have cleared := tableSound_of_beside h (told.trans (beside_setLink u p Link.cleared))
    rw [orphanPort_eq]
    exact tableSound_of_beside (tableSound_reevaluate ((loose_of_sound cleared).orphanedState p))
      ((beside_dropRequests _ p).trans (beside_removeVote _ p))
  · exact h

theorem tableSound_placeControl (h : s.tableSound) (p : Port) (m : Message) : (s.placeControl p m).tableSound := by
  unfold State.placeControl
  split
  · simp only
    split
    · exact tableSound_linkDown h p _
    · exact tableSound_of_beside h (beside_setLink s p _)
  · exact h

theorem tableSound_replyAndLetGo (h : s.tableSound) (p : Port) (m : Message) : (s.replyAndLetGo p m).tableSound :=
  tableSound_of_beside (tableSound_placeControl h p m) (beside_returnCredit _ p _)

/-! ### A FILL entry freed, an entry DONE (R37 to R39, R109, R114) -/

theorem Loose.fillEntryFreed (h : Loose [] s) : s.fillEntryFreed.tableSound := by
  unfold State.fillEntryFreed
  split
  · exact tableSound_reevaluate h
  · next f hf =>
    have counted : Loose [] { s with fill := some { f with inFlight := f.inFlight - 1 } } :=
      h.beside (.of (fill := by rw [hf]; rfl))
    simp only
    generalize hu : State.createFillEntries { s with fill := some { f with inFlight := f.inFlight - 1 } } = u
    have created : Loose [] u := hu ▸ counted.createFillEntries
    split
    · exact tableSound_reevaluate created
    · split
      · exact tableSound_reevaluate created
      · split
        · split
          · exact created.removeFill
          · exact tableSound_replyAndLetGo created.removeFill _ _
        · split
          · exact tableSound_of_beside created.removeFill (beside_raiseNotice _ _ _)
          · exact tableSound_reevaluate created

/-- The record of an access's end: like the entry's, its owner and its reasons the same, nothing to write back. -/
structure Ended (x e : Entry) : Prop where
  like : Alike x e
  owner : e.owner = x.owner
  holds : e.holds = x.holds

theorem tableSound_entryDone (h : s.tableSound) (he : s.entry k = some x) (ended : Ended x e) (set : e.writeBack = [])
    (access : x.state = .inAccess ∨ x.state = .inUpdate) (still : NotInFlight s k) : (s.entryDone k e).tableSound := by
  obtain ⟨loose, right⟩ := tableSound_iff.1 h
  have out : x.state ≠ .held := by rcases access with k | k <;> rw [k] <;> exact nofun
  have unlisted : ∀ q, ¬ Listed x q := fun q listed => by
    have done : x.state = .done := listed.1
    rcases access with k | k <;> rw [k] at done <;> cases done
  have fields : ({ e with state := .done } : Entry).fieldsPresent := by
    obtain ⟨range, -, holds⟩ := loose.records _ ((mem_table loose.wf (x := (k, x))).2 he)
    refine ⟨fun barrier => ?_, ⟨fun some => absurd set some, fun update => by cases update⟩, fun _ => ?_⟩
    · change e.first = 0 ∧ e.count = 0
      rw [← ended.like.first, ← ended.like.count]
      exact range (ended.like.kind.trans barrier)
    · change e.holds.isEmpty = true
      rw [ended.holds]
      exact holds out
  have cleared : Loose [] (s.clearSlot k) :=
    (loose.open_ fun y q hy => by rw [he] at hy; cases hy; exact unlisted q).clearSlot still
  have like : Alike x { e with state := .done } :=
    ⟨ended.like.age, ended.like.first, ended.like.count, ended.like.kind, ended.like.session⟩
  match own : e.owner with
  | .port p tag n false =>
    rw [entryDone_live own]
    refine tableSound_iff.2 ⟨(loose.replace he like out fields unlisted (.inl still)).list List.not_mem_nil
      (entry_setEntry_self s k _) ⟨rfl, tag, n, own⟩ rfl, fun y hy held => ?_⟩
    rw [table_setPort] at hy ⊢
    rw [fill_setPort]
    exact right.replace loose.wf he like nofun y hy held
  | .port p tag n true =>
    rw [entryDone_orphan own he ended.owner.symm]
    exact tableSound_reevaluate (cleared.beside (beside_returnCredit _ p _))
  | .maintenance =>
    unfold State.entryDone
    rw [own]
    simp only
    split
    · exact cleared.fillEntryFreed
    · exact tableSound_takePendingStep (tableSound_reevaluate cleared)

end Sys2Proof.Machine.Table

end

section
/-! Every update the commands are made of keeps the table sound. -/

namespace Sys2Proof.Machine.Table

open Sys2Proof.Machine.Steps Sys2Proof.Machine.Accounts Sys2Proof.Machine.Schedule Sys2Proof.Machine.Upkeep

variable {s t u : State} {p : Port} {k : Nat} {e x : Entry}

/-! ### The end of an access (R37, R67) -/

/-- A read transfer writes the results of a record alone. -/
theorem afterRead_eq (e : Entry) (on : Bool) (blocks : List ReadBlock) : ∃ classes data set status old,
    e.afterRead on blocks =
      { e with classes := classes, data := data, writeBack := set, status := status, oldValue := old } := by
  unfold Entry.afterRead
  simp only
  split
  case h_2 =>
    unfold Entry.afterAtomicRead
    split
    · exact ⟨_, _, _, _, _, rfl⟩
    · exact ⟨_, _, _, _, _, rfl⟩
  all_goals exact ⟨_, _, _, _, _, rfl⟩

theorem ended_afterRead (e : Entry) (on : Bool) (blocks : List ReadBlock) : Ended e (e.afterRead on blocks) := by
  obtain ⟨_, _, _, _, _, eq⟩ := afterRead_eq e on blocks
  rw [eq]
  exact ⟨⟨rfl, rfl, rfl, rfl, rfl⟩, rfl, rfl⟩

/-- After a write transfer nothing is left to write back. -/
theorem ended_afterWrite (fields : e.fieldsPresent) : Ended e e.afterWrite ∧ e.afterWrite.writeBack = [] := by
  obtain ⟨-, set, -⟩ := fields
  unfold Entry.afterWrite
  split
  · exact ⟨⟨⟨rfl, rfl, rfl, rfl, rfl⟩, rfl, rfl⟩, rfl⟩
  · next other =>
    have none : e.writeBack = [] := by
      by_contra some
      exact other (set.1 some)
    split
    · exact ⟨⟨.refl e, rfl, rfl⟩, none⟩
    · exact ⟨⟨⟨rfl, rfl, rfl, rfl, rfl⟩, rfl, rfl⟩, none⟩

theorem not_listed (access : x.state = .inAccess ∨ x.state = .inUpdate) (q : Port) : ¬ Listed x q := by
  rintro ⟨done, -⟩
  rw [done] at access
  rcases access with k | k <;> cases k

/-- An entry in a state of access is replaced by its like in one. -/
theorem tableSound_replace (h : s.tableSound) (he : s.entry k = some x) (like : Alike x e) (out : x.state ≠ .held)
    (unlisted : ∀ q, ¬ Listed x q) (fields : e.fieldsPresent) (access : e.state = .inAccess ∨ e.state = .inUpdate) :
    (s.setEntry k e).tableSound := by
  obtain ⟨loose, right⟩ := tableSound_iff.1 h
  refine tableSound_iff.2 ⟨(loose.replace he like out fields unlisted (.inr access)).close fun y q hy => ?_,
    right.replace loose.wf he like fun held => ?_⟩
  · rw [entry_setEntry_self] at hy
    cases hy
    exact not_listed access q
  · rw [held] at access
    rcases access with k | k <;> cases k

theorem tableSound_entryRead (h : s.tableSound) (he : s.entry k = some x) (access : x.state = .inAccess ∨ x.state = .inUpdate)
    (still : s.path.flight = none) (blocks : List ReadBlock) : (s.entryRead k x blocks).tableSound := by
  unfold State.entryRead
  simp only
  have ended := ended_afterRead x s.store.correctOnRead blocks
  generalize x.afterRead s.store.correctOnRead blocks = e at ended ⊢
  generalize hu : List.foldl (fun s p => s.takeReport x.source (x.first + p)) s (x.reportedPositions e.classes) = u
  have told : Beside s u := hu ▸ beside_foldl (fun s _ => beside_takeReport s _ _) _ s
  have sound := tableSound_of_beside h told
  have same : u.entry k = some x := (told.entry k).trans he
  have out : x.state ≠ .held := by rcases access with k | k <;> rw [k] <;> exact nofun
  split
  · next empty =>
    refine tableSound_entryDone sound same ended (List.isEmpty_iff.1 empty) access fun f hf => ?_
    rcases told.flight with kept | gone
    · rw [kept, still] at hf
      cases hf
    · rw [gone] at hf
      cases hf
  · next some =>
    obtain ⟨range, -, holds⟩ := (loose_of_sound h).records _ ((mem_table (loose_of_sound h).wf (x := (k, x))).2 he)
    refine tableSound_replace sound same
      ⟨ended.like.age, ended.like.first, ended.like.count, ended.like.kind, ended.like.session⟩ out (not_listed access)
      ⟨fun barrier => ?_, ⟨fun _ => rfl, fun _ empty => some (List.isEmpty_iff.2 empty)⟩, fun _ => ?_⟩ (.inr rfl)
    · change e.first = 0 ∧ e.count = 0
      rw [← ended.like.first, ← ended.like.count]
      exact range (ended.like.kind.trans barrier)
    · change e.holds.isEmpty = true
      rw [ended.holds]
      exact holds out

theorem beside_setMemory (s : State) (contents : List Host.Cell) (conditions : List (Nat × Condition)) :
    Beside s { s with contents := contents, conditions := conditions } := .of

theorem beside_writeBlocks (s : State) (writes : List (Nat × List Byte)) : Beside s (s.writeBlocks writes) := by
  unfold State.writeBlocks State.writeBlock
  exact beside_foldl (fun s _ => beside_setMemory s _ _) writes s

theorem tableSound_readEnds (h : s.tableSound) {f : Flight} (hf : s.path.flight = some f) : (s.readEnds f).tableSound := by
  unfold State.readEnds
  simp only
  generalize hu : State.setBank _ f.bank _ = u
  have ended : Beside s u := by
    subst hu
    exact .of (flight := .inr rfl)
  have still : u.path.flight = none := by
    subst hu
    rfl
  split
  · exact tableSound_of_beside h (ended.trans (beside_settleRunDown u))
  · next j hj =>
    have counted : Beside s (u.countCorrected f.bank (correctedIn ((s.at f.due).readRange f.first f.count))) :=
      ended.trans .of
    obtain ⟨x, hx, access⟩ := (loose_of_sound h).flight f j hf hj
    have same := (counted.entry j).trans hx
    rw [same]
    exact tableSound_entryRead (tableSound_of_beside h counted) same access still _

theorem tableSound_writeEnds (h : s.tableSound) {f : Flight} (hf : s.path.flight = some f) :
    (s.writeEnds f).tableSound := by
  unfold State.writeEnds
  simp only
  have written : Beside s ((s.at f.due).writeBlocks f.writes) := Beside.trans .of (beside_writeBlocks _ f.writes)
  generalize (s.at f.due).writeBlocks f.writes = w at written ⊢
  generalize hu : State.setBank _ f.bank _ = u
  have ended : Beside s u := by
    subst hu
    exact written.trans (.of (flight := .inr rfl))
  have still : u.path.flight = none := by
    subst hu
    rfl
  split
  · exact tableSound_of_beside h (ended.trans (beside_settleRunDown u))
  · next j hj =>
    have loose := loose_of_sound h
    obtain ⟨x, hx, access⟩ := loose.flight f j hf hj
    have same := (ended.entry j).trans hx
    rw [same]
    obtain ⟨like, set⟩ := ended_afterWrite (loose.records _ ((mem_table loose.wf (x := (j, x))).2 hx))
    refine tableSound_entryDone (tableSound_of_beside h ended) same like set access fun g hg => ?_
    rw [still] at hg
    cases hg

/-! ### Grants (R61 to R63) -/

/-- The access in flight is one of an entry in IN-ACCESS or IN-UPDATE. -/
theorem tableSound_setFlight (h : s.tableSound) {f : Flight} (hf : f.slot = some k) (he : s.entry k = some e)
    (access : e.state = .inAccess ∨ e.state = .inUpdate) :
    State.tableSound { s with path := { s.path with flight := some f } } := by
  obtain ⟨loose, right⟩ := tableSound_iff.1 h
  refine tableSound_iff.2 ⟨⟨loose.wf, ⟨loose.ages.below, loose.ages.apart, loose.ages.fill⟩, loose.replies,
    fun g j hg hj => ?_, loose.free, loose.records⟩, right⟩
  cases hg
  rw [hf] at hj
  cases hj
  exact ⟨e, he, access⟩

theorem tableSound_grantFirst (h : s.tableSound) (chosen : s.firstAccessChoice = some (k, x)) :
    (s.grantFirst k x).tableSound := by
  obtain ⟨mem, queued⟩ := firstAccessChoice_mem chosen
  have loose := loose_of_sound h
  have he := (mem_table loose.wf).1 mem
  have out : x.state ≠ .held := by rw [queued]; exact nofun
  obtain ⟨range, set, holds⟩ := loose.records _ mem
  have granted : (s.setEntry k { x with state := .inAccess }).tableSound := by
    refine tableSound_replace h he ⟨rfl, rfl, rfl, rfl, rfl⟩ out (fun q listed => ?_)
      ⟨range, ⟨fun some => ?_, fun update => by cases update⟩, fun _ => holds out⟩ (.inl rfl)
    · have done : x.state = .done := listed.1
      rw [queued] at done
      cases done
    · have update := set.1 some
      rw [queued] at update
      cases update
  unfold State.grantFirst
  simp only
  refine tableSound_setFlight (k := k) (e := { x with state := .inAccess })
    (tableSound_of_beside granted (beside_setBanks _ _)) ?_ (entry_setEntry_self s k _) (.inl rfl)
  unfold firstFlight
  split <;> rfl

theorem tableSound_writeBack (h : s.tableSound) (chosen : s.writeBackChoice = some (k, x)) :
    State.tableSound { s with path := { s.path with flight := some (writeBackFlight s.now k x) } } := by
  obtain ⟨mem, update, -⟩ := writeBackChoice_some chosen
  exact tableSound_setFlight h rfl ((mem_table (loose_of_sound h).wf).1 mem) (.inr update)

/-! ### The arbiter (R38, R39, R147) -/

/-- The head of a reply list leaves it, its slot open. -/
theorem Loose.takeHead (h : Loose [] s) {rest : List Nat} (list : (s.port p).replies = k :: rest) (listed : Listed e p)
    (he : s.entry k = some e) : Loose [k] (s.setPort p { s.port p with replies := rest }) where
  wf := by rw [table_setPort]; exact h.wf
  ages := by
    refine ⟨?_, ?_, ?_⟩
    · rw [table_setPort, ageCounter_setPort]; exact h.ages.below
    · rw [table_setPort]; exact h.ages.apart
    · rw [table_setPort, ageCounter_setPort, fill_setPort]; exact h.ages.fill
  flight := by
    intro f j hf hj
    rw [path_setPort] at hf
    rw [entry_setPort]
    exact h.flight f j hf hj
  free := by rw [table_setPort, fill_setPort]; exact h.free
  records x hx := by rw [table_setPort] at hx; exact h.records x hx
  replies q := by
    obtain ⟨nodup, mem⟩ := h.replies q
    have entries : ∀ j, (s.setPort p { s.port p with replies := rest }).entry j = s.entry j := entry_setPort s p _
    by_cases same : q = p
    · subst same
      rw [list] at nodup mem
      obtain ⟨out, nodup⟩ := List.nodup_cons.1 nodup
      rw [port_setPort_self]
      refine ⟨nodup, fun j => ?_⟩
      rw [entries, List.mem_singleton]
      constructor
      · intro hj
        exact ⟨fun e => out (e ▸ hj), ((mem j).1 (List.mem_cons_of_mem _ hj)).2⟩
      · rintro ⟨ne, found⟩
        exact (List.mem_cons.1 ((mem j).2 ⟨List.not_mem_nil, found⟩)).resolve_left ne
    · rw [port_setPort_of_ne _ _ _ _ same]
      refine ⟨nodup, fun j => (mem j).trans ?_⟩
      rw [entries]
      refine ⟨fun ⟨_, y, hy, isListed⟩ => ⟨fun hj => ?_, y, hy, isListed⟩, fun ⟨_, found⟩ => ⟨List.not_mem_nil, found⟩⟩
      rw [List.mem_singleton] at hj
      subst hj
      rw [he] at hy
      cases hy
      obtain ⟨-, tag, n, own⟩ := listed
      obtain ⟨-, tag', n', own'⟩ := isListed
      rw [own] at own'
      cases own'
      exact same rfl

theorem tableSound_arbiterTake (h : s.tableSound) (p : Port) : (s.arbiterTake p).tableSound := by
  unfold State.arbiterTake
  split
  · exact tableSound_of_beside h ((beside_setLink s p _).trans (beside_sendMessage _ p _))
  · split
    · next slot rest list =>
      have loose := loose_of_sound h
      obtain ⟨-, e, he, listed⟩ := ((loose.replies p).2 slot).1 (by rw [list]; exact List.mem_cons_self)
      rw [he]
      simp only
      unfold State.takeReply
      simp only
      have headless := loose.takeHead list listed he
      have here : (s.setPort p { s.port p with replies := rest }).entry slot = some e := (entry_setPort s p _ slot).trans he
      have done : e.state = .done := listed.1
      have cleared := headless.clearSlot
        (notInFlight_of_state headless here (by rw [done]; exact nofun) (by rw [done]; exact nofun))
      exact tableSound_of_beside (tableSound_reevaluate (cleared.beside (beside_freeSlotOf here))) (beside_sendMessage _ p _)
    · split
      · exact tableSound_of_beside h ((beside_setLink s p _).trans (beside_sendMessage _ p _))
      · exact h

/-! ### Acceptance (R27, R30, R161, R163) -/

theorem tableSound_intake (h : s.tableSound) {head : BodyHead} {r : MemRequest} (took : s.intake p head r = some t) :
    t.tableSound := by
  unfold State.intake at took
  split at took
  · cases took
    exact tableSound_of_beside (tableSound_placeControl h p _) (beside_returnCredit _ p _)
  · obtain ⟨slot, free, rfl⟩ := Option.map_eq_some_iff.1 took
    obtain ⟨-, -, new, -⟩ := freeSlot_eq_some free
    exact tableSound_admission h new p head.tag r

theorem tableSound_acceptMessage (h : s.tableSound) {head : BodyHead} {m : Parsed}
    (took : s.acceptMessage p head m = some t) : t.tableSound := by
  unfold State.acceptMessage at took
  simp only at took
  split at took
  · cases took
    exact tableSound_linkDown h p _
  · have accepted := tableSound_of_beside h (beside_acceptFrame s p m.creditClass)
    split at took
    · next why _ =>
      cases took
      unfold State.refuseMessage
      simp only
      have placed : ((s.acceptFrame p m.creditClass).placeRefused p head why).tableSound :=
        tableSound_placeControl accepted p _
      split
      · exact placed
      · exact tableSound_of_beside placed (beside_returnCredit _ p _)
    · cases m with
      | memory r => exact tableSound_intake accepted took
      | management r =>
        cases took
        exact tableSound_of_beside accepted .of
      | unknownKind =>
        cases took
        exact accepted
      | malformed cls =>
        cases took
        exact accepted

/-! ### Management requests (R164 to R173) -/

theorem tableSound_answer (h : s.tableSound) (p : Port) (m : Message) (b : Beside s t) : (t.replyAndLetGo p m).tableSound :=
  tableSound_replyAndLetGo (tableSound_of_beside h b) p m

theorem tableSound_answerSlot (h : s.tableSound) (p : Port) (tag : Byte) (kind : Nat) (slot : Fin 8) :
    (s.answerSlot p tag kind slot).tableSound := by
  unfold State.answerSlot
  split <;> exact tableSound_replyAndLetGo h p _

theorem beside_applyKey (s : State) (key : Nat) : Beside s (s.applyKey key) := by
  unfold State.applyKey
  split
  · exact .of
  · split
    · exact .of
    · exact .refl s

theorem beside_calTrigger (s : State) (kind : CalKind) : Beside s (s.calTrigger kind) := by
  unfold State.calTrigger
  split
  · exact .refl s
  · simp only
    split
    · exact Beside.trans .of (beside_endNap _)
    · exact .of

/-- A fill with the newest age holds back no entry. -/
theorem Loose.startFill (h : Loose [] s) {f : Fill} (age : f.age = s.ageCounter) (start : f.cursor = f.first)
    (whole : f.count % 8 = 0) : Loose [] { s.takeAge with fill := some f } := by
  refine h.takeAge.setFill (fun g hg => ?_) fun x hx held => ?_
  · cases hg
    refine ⟨age ▸ Nat.lt_succ_self _, by omega, by omega, fun x hx same => ?_⟩
    have := h.ages.below x hx
    omega
  · have := h.ages.below x hx
    have := (fillHolds_eq_true.1 held).1
    omega

theorem tableSound_acceptFill (h : s.tableSound) (p : Port) (tag : Byte) {first count : BitVec 32} (pattern : BitVec 64)
    (whole : count.toNat % 8 = 0) : (s.acceptFill p tag first count pattern).tableSound := by
  unfold State.acceptFill
  simp only
  exact tableSound_answer
    (tableSound_reevaluate ((loose_of_sound h).startFill (by exact rfl) (by exact rfl) whole).createFillEntries) p _
    (beside_removeVote _ p)

theorem tableSound_takeConfigSet (h : s.tableSound) (p : Port) (tag : Byte) (key value : BitVec 32) :
    (takeConfigSet p tag key value s).tableSound := by
  unfold takeConfigSet
  split
  · exact tableSound_replyAndLetGo h p _
  · split
    · exact tableSound_replyAndLetGo h p _
    · split
      · exact tableSound_replyAndLetGo h p _
      · split
        · exact tableSound_replyAndLetGo h p _
        · exact tableSound_answer h p _ (Beside.trans .of (beside_applyKey _ _))

theorem beside_clearCounts (s : State) : Beside s s.clearCounts := by
  unfold State.clearCounts State.mapBanks
  exact .of

theorem tableSound_takeStatus (h : s.tableSound) (p : Port) (tag : Byte) (clear : Bool) :
    (takeStatus p tag clear s).tableSound := by
  unfold takeStatus
  simp only
  split
  · exact tableSound_answer h p _ (beside_clearCounts s)
  · exact tableSound_replyAndLetGo h p _

theorem tableSound_takeRegionSet (h : s.tableSound) (p : Port) (tag slot : Byte) (first count : BitVec 32)
    (enable rightsA rightsB : Byte) : (takeRegionSet p tag slot first count enable rightsA rightsB s).tableSound := by
  unfold takeRegionSet
  split
  · exact tableSound_replyAndLetGo h p _
  · split
    · exact tableSound_replyAndLetGo h p _
    · split
      · split
        · exact tableSound_replyAndLetGo h p _
        · exact tableSound_answerSlot (tableSound_of_beside h .of) p tag 20 _
      · exact tableSound_replyAndLetGo h p _

theorem tableSound_takeFillStart (h : s.tableSound) (p : Port) (tag : Byte) (first count : BitVec 32)
    (pattern : BitVec 64) : (takeFillStart p tag first count pattern s).tableSound := by
  unfold takeFillStart
  split
  · exact tableSound_replyAndLetGo h p _
  · split
    · exact tableSound_replyAndLetGo h p _
    · next good =>
      split
      · exact tableSound_replyAndLetGo h p _
      · split
        · exact tableSound_replyAndLetGo h p _
        · refine tableSound_acceptFill h p tag pattern ?_
          unfold badFillRange at good
          rw [decide_eq_true_iff] at good
          omega

theorem tableSound_takeFillAbort (h : s.tableSound) (p : Port) (tag : Byte) : (takeFillAbort p tag s).tableSound := by
  unfold takeFillAbort
  split
  · exact tableSound_replyAndLetGo h p _
  · split
    · exact tableSound_replyAndLetGo h p _
    · next f hf =>
      split
      · exact tableSound_replyAndLetGo h p _
      · exact tableSound_of_beside h (.of (fill := by rw [hf]; rfl))

theorem tableSound_takeRetainVote (h : s.tableSound) (p : Port) (tag : Byte) : (takeRetainVote p tag s).tableSound := by
  unfold takeRetainVote
  split
  · exact tableSound_replyAndLetGo h p _
  · split
    · exact tableSound_replyAndLetGo h p _
    · split
      · exact tableSound_replyAndLetGo h p _
      · exact tableSound_answer h p _ ((beside_setVote s p true).trans (beside_raiseNotice _ _ _))

/-- The requests that only read, or change what is beside the table. -/
theorem tableSound_takePlain (h : s.tableSound) (p : Port) (tag : Byte) :
    (∀ key, (takeConfigGet p tag key s).tableSound) ∧ (∀ slot, (takeRegionGet p tag slot s).tableSound) ∧
      (takeErrorFetch p tag s).tableSound ∧ (∀ number, (takeErrorClear p tag number s).tableSound) ∧
      (takeRetainWithdraw p tag s).tableSound ∧ (takeCalibrate p tag s).tableSound ∧ (takeRestart p tag s).tableSound := by
  have plain : ∀ m, (s.replyAndLetGo p m).tableSound := tableSound_replyAndLetGo h p
  refine ⟨fun key => ?_, fun slot => ?_, ?_, fun number => ?_, ?_, ?_, ?_⟩
  · unfold takeConfigGet
    split
    · exact plain _
    · split
      · exact plain _
      · exact plain _
  · unfold takeRegionGet
    split
    · exact plain _
    · split
      · exact tableSound_answerSlot h p tag 19 _
      · exact plain _
  · unfold takeErrorFetch
    split
    · exact plain _
    · split
      · exact plain _
      · exact plain _
  · unfold takeErrorClear
    split
    · exact plain _
    · split
      · exact tableSound_answer h p _ .of
      · exact plain _
  · unfold takeRetainWithdraw
    split
    · exact plain _
    · exact tableSound_answer h p _ (beside_removeVote s p)
  · unfold takeCalibrate
    split
    · exact plain _
    · exact tableSound_answer h p _ (beside_calTrigger s .long)
  · unfold takeRestart
    split
    · exact plain _
    · split
      · exact plain _
      · exact tableSound_answer h p _ .of

theorem tableSound_takeRequest (h : s.tableSound) (q : HeldRequest) : (takeRequest q s).tableSound := by
  obtain ⟨configGet, regionGet, errorFetch, errorClear, withdraw, calibrate, restart⟩ :=
    tableSound_takePlain h q.port q.tag
  unfold takeRequest
  split
  · exact configGet _
  · exact tableSound_takeConfigSet h ..
  · exact tableSound_takeStatus h ..
  · exact regionGet _
  · exact tableSound_takeRegionSet h ..
  · exact errorFetch
  · exact errorClear _
  · exact tableSound_takeFillStart h ..
  · exact tableSound_takeFillAbort h ..
  · exact tableSound_takeRetainVote h ..
  · exact withdraw
  · exact calibrate
  · exact restart

/-! ### Resets, and every update -/

/-- With the table empty, no fill, nothing listed and no entry's access in flight, the table is sound. -/
theorem tableSound_of_empty (table : s.table = []) (fill : s.fill = none) (replies : ∀ p, (s.port p).replies = [])
    (flight : ∀ f, s.path.flight = some f → f.slot = none) : s.tableSound := by
  have none : ∀ k, s.entry k = none := fun k => by
    unfold State.entry
    rw [table]
    rfl
  have out : ∀ x, x ∉ s.table := fun x => by
    rw [table]
    exact List.not_mem_nil
  refine tableSound_iff.2 ⟨⟨?_, ⟨fun x hx => (out x hx).elim, fun x hx => (out x hx).elim, fun f hf => ?_⟩, fun p => ?_,
    fun f k hf hk => ?_, fun x hx => (out x hx).elim, fun x hx => (out x hx).elim⟩, fun x hx => (out x hx).elim⟩
  · rw [table]
    exact List.Pairwise.nil
  · rw [fill] at hf
    cases hf
  · rw [replies]
    refine ⟨List.nodup_nil, fun k => ⟨fun hk => (List.not_mem_nil hk).elim, fun ⟨_, e, he, _⟩ => ?_⟩⟩
    rw [none] at he
    cases he
  · rw [flight f hf] at hk
    cases hk

theorem beside_startIntervalsIfStopped (s : State) : Beside s s.startIntervalsIfStopped := by
  rw [startIntervalsIfStopped_eq]
  exact beside_setBanks s _

theorem tableSound_resetLow (s : State) : s.resetLow.tableSound := by
  unfold State.resetLow
  simp only
  refine tableSound_of_beside (tableSound_of_empty ?_ ?_ ?_ ?_) (((beside_setBanks _ _).trans
    (beside_startIntervalsIfStopped _)).trans (beside_settleRunDown _))
  · rfl
  · rfl
  · intro p
    cases p <;> rfl
  · intro f hf
    obtain ⟨g, -, rfl⟩ := Option.map_eq_some_iff.1 hf
    rfl

theorem tableSound_powerUp (s : State) (high : Bool) : (s.powerUp high).tableSound := by
  have empty : State.tableSound { State.reset with
      now := s.now, powerOns := s.powerOns + 1, rstHigh := high, pending := s.pending
      portA := { PortRec.powerOn with tx := s.portA.tx }, portB := { PortRec.powerOn with tx := s.portB.tx } } :=
    tableSound_of_empty rfl rfl (fun p => by cases p <;> rfl) nofun
  unfold State.powerUp
  simp only
  split
  · exact empty
  · exact tableSound_of_beside empty (beside_setBanks _ _)

/-- Every update that the commands are made of keeps the table sound. -/
theorem keeps_tableSound : StepInvariant State.tableSound where
  queue _ _ h := tableSound_of_beside h .of
  later _ _ h _ := tableSound_of_beside h .of
  lines _ _ _ _ h := tableSound_of_beside h .of
  powerUp s high _ := tableSound_powerUp s high
  resetLow s _ := tableSound_resetLow s
  settle _ h := tableSound_of_beside h .of
  settleRunDown s h := tableSound_of_beside h (beside_settleRunDown s)
  power s w h _ := tableSound_of_beside h (beside_setPower s w)
  maint _ _ h _ := tableSound_of_beside h .of
  banks s B h _ := tableSound_of_beside h (beside_setBanks s B)
  setCondition s block c h := tableSound_of_beside h (beside_setMemory s _ _)
  grantOpening _ _ _ h _ := tableSound_of_beside h .of
  windowSlot _ _ _ h _ := tableSound_of_beside h .of
  calRun _ _ h := tableSound_of_beside h .of
  firstAccess _ _ _ h chosen := tableSound_grantFirst h chosen
  writeBack _ _ _ h chosen := tableSound_writeBack h chosen
  readEnds _ _ h hf := tableSound_readEnds h hf
  writeEnds _ _ h hf := tableSound_writeEnds h hf
  stepTimer _ _ _ h := tableSound_of_beside h .of
  stepFallsDue _ h := tableSound_stepFallsDue h
  emit s p f h := tableSound_of_beside h (beside_emit s p f)
  quietLink s p l h _ := tableSound_of_beside h (beside_setLink s p l)
  clearLink s p h := tableSound_of_beside h (beside_setLink s p _)
  becomePending s p _ h _ := tableSound_of_beside h (beside_setLink s p _)
  sleep _ h := tableSound_of_beside h (.of (replies := fun q => by cases q <;> rfl))
  setVote s p v h := tableSound_of_beside h (beside_setVote s p v)
  raiseNotice s p n h := tableSound_of_beside h (beside_raiseNotice s p n)
  sendAck s p h := tableSound_of_beside h (beside_sendAck s p)
  ackProgress s p n h := tableSound_of_beside h (beside_ackProgress s p n)
  linkDown _ p why h := tableSound_linkDown h p why
  answerTrain s p revision h := tableSound_of_beside h (beside_answerTrain s p revision)
  acceptMessage _ _ _ _ _ h _ took := tableSound_acceptMessage h took
  arbiterTake _ p h _ := tableSound_arbiterTake h p
  take s q rest h _ := tableSound_takeRequest (tableSound_of_beside h (beside_setMgmt s _)) q

/-- Settles O4: each update the commands are made of keeps the table sound, a change of the table being followed by a
re-evaluation of the holds in the same event. -/
theorem stepsKeepTheTableSound : Obligations.StepsKeepTheTableSound := fun _ _ h step => keeps_tableSound.step h step

/-! ### What the hold rules exclude (R32, R33) -/

theorem overlaps_comm (a b : Entry) : a.overlaps b = b.overlaps a := by
  unfold Entry.overlaps rangesOverlap
  rw [max_comm, min_comm]

/-- An older entry that holds back no overlapping one: both are reads. -/
theorem reads_of_not_holdsBack {a b : Entry} (older : a.older b = true) (overlap : a.overlaps b = true)
    (free : holdsBack a b = false) : a.kind = .read ∧ b.kind = .read := by
  unfold holdsBack at free
  rw [older, overlap] at free
  simp only [Bool.true_and, Bool.or_eq_false_iff, Bool.not_eq_false', Bool.and_eq_true, Entry.readClass,
    decide_eq_true_eq] at free
  exact free.1

/-- Settles O5: of two entries one is the older, and an entry out of HELD is held back by none. -/
theorem overlappingAccessesExclude : Obligations.OverlappingAccessesExclude := by
  intro s h x hx y hy access
  have loose := loose_of_sound h
  have back : ∀ z ∈ s.table, (z.2.state = .inAccess ∨ z.2.state = .inUpdate) → ∀ w ∈ s.table, holdsBack w.2 z.2 = false :=
    fun z hz isIn => (isEmpty_holdsOf_iff.1 (loose.free z hz (by rcases isIn with k | k <;> rw [k] <;> exact nofun))).1
  refine ⟨fun access' ne overlap => ?_, fun barrier session younger => ?_⟩
  · have apart := loose.ages.apart x hx y hy ne
    by_cases older : x.2.older y.2 = true
    · exact reads_of_not_holdsBack older overlap (back y hy access' x hx)
    · have other : y.2.older x.2 = true := by
        rw [older_iff] at older ⊢
        omega
      exact (reads_of_not_holdsBack other ((overlaps_comm _ _).trans overlap) (back x hx access y hy)).symm
  · have free := back x hx access y hy
    have older : y.2.older x.2 = true := (older_iff _ _).2 (.inl younger)
    unfold holdsBack Entry.isBarrier at free
    rw [older, session, barrier] at free
    simp at free

end Sys2Proof.Machine.Table

end

section
/-! A fill begun and aborted (R111, R112, R113, R116). -/

namespace Sys2Proof.Machine.Table

open Sys2Proof.Machine.Steps Sys2Proof.Machine.Accounts Sys2Proof.Machine.Schedule Sys2Proof.Machine.Upkeep
open Sys2Proof.Machine.Requests Sys2Proof.Machine.Frames

variable {s t u : State} {p : Port} {tag : Byte} {k : Nat} {e x : Entry}

/-! ### A table whose reasons are right is left as it is (R35) -/

theorem barriersToComplete_of_heldRight (right : HeldRight s) : s.barriersToComplete = [] := by
  refine List.eq_nil_iff_forall_not_mem.2 fun y hy => ?_
  obtain ⟨hy, held, -, empty⟩ := mem_barriersToComplete.1 hy
  obtain ⟨recorded, some⟩ := right y hy held
  rw [← recorded, some] at empty
  cases empty

theorem reheldState_of_heldRight (right : HeldRight s) : reheldState s = s := by
  have same : Sparse.map (reheldIn s) s.table = s.table := by
    refine (List.map_congr_left fun x hx => ?_).trans (List.map_id _)
    unfold reheldIn
    by_cases held : x.2.state = .held
    · obtain ⟨recorded, some⟩ := right x hx held
      rw [← recorded, reheld_of_held held some]
      rfl
    · rw [reheld_of_not_held held]
      rfl
  unfold reheldState
  rw [same]

theorem reevaluatePass_of_heldRight (right : HeldRight s) : s.reevaluatePass = s := by
  rw [reevaluatePass_eq, barriersToComplete_of_heldRight right, reheldState_of_heldRight right]
  rfl

theorem reevaluate_of_heldRight (right : HeldRight s) : s.reevaluate = s := by
  have passes : ∀ n, reevaluateFor n s = s := fun n => by
    cases n with
    | zero => exact reevaluatePass_of_heldRight right
    | succ n =>
      unfold reevaluateFor
      rw [barriersToComplete_of_heldRight right]
      exact reevaluatePass_of_heldRight right
  exact passes _

/-! ### A record that holds nothing back -/

theorem any_insert_of_false {l : List (Nat × Entry)} (w : Sparse.Wf l) (free : Sparse.find? l k = none)
    {g : Nat × Entry → Bool} (not : g (k, x) = false) : (Sparse.insert l k x).any g = l.any g := by
  rw [Bool.eq_iff_iff, List.any_eq_true, List.any_eq_true]
  constructor
  · rintro ⟨y, hy, isG⟩
    rcases (mem_insert_iff w).1 hy with rfl | ⟨hy, -⟩
    · rw [not] at isG
      cases isG
    · exact ⟨y, hy, isG⟩
  · rintro ⟨y, hy, isG⟩
    refine ⟨y, (mem_insert_iff w).2 (.inr ⟨hy, fun same => ?_⟩), isG⟩
    rw [← same, (mem_iff_find? w).1 hy] at free
    cases free

/-- A record of no session, of a range apart, adds no reason. -/
theorem holdsOf_insert_apart {l : List (Nat × Entry)} (w : Sparse.Wf l) (free : Sparse.find? l k = none)
    (apart : x.overlaps e = false) (owner : x.owner = .maintenance) (F : Option Fill) :
    holdsOf (Sparse.insert l k x) F e = holdsOf l F e := by
  have session : sameSession x.owner e.owner = false := by
    rw [owner]
    rfl
  unfold holdsOf hazardHolds barrierHolds
  rw [any_insert_of_false w free (by simp [apart]), any_insert_of_false w free (by simp [session])]

/-! ### The first entries of a fill (R112, R113) -/

/-- The fill's record with `n` entries created. -/
def fillAfter (f : Fill) (n : Nat) : Fill := { f with cursor := f.first + 8 * n, inFlight := n }

/-- The power as an admission of maintenance work leaves it (R179). -/
def napEnded (s : State) : Power :=
  if s.power.state = .nap then { s.power with state := .active, exitDue := some (s.now + ns 20) } else s.power

/-- The record of a fill's entry `i`, its reasons those of the table before the fill. -/
def FillEntry (s : State) (f : Fill) (i : Nat) (e : Entry) : Prop :=
  e = ⟨.maintenance, .fill, f.first + 8 * i, 8, fillData f.pattern, f.age, e.state, e.holds, [], [], none, none⟩ ∧
    e.holds = holdsOf s.table none e ∧ e.state = if e.holds.isEmpty then .queued else .held

/-- The slots of a fill's first `n` entries: the lowest FREE maintenance slots of `s`, in order. -/
def LowestFree (s : State) (n : Nat) (slot : Nat → Nat) : Prop :=
  ∀ i, i < n → 96 ≤ slot i ∧ slot i < 100 ∧ s.entry (slot i) = none ∧ (∀ j, j < i → slot j < slot i) ∧
    ∀ k, 96 ≤ k → k < slot i → s.entry k ≠ none ∨ ∃ j, j < i ∧ k = slot j

/-- A fill begun on `s` with `n` entries created in the given slots. -/
structure Begun (s u : State) (f : Fill) (n : Nat) (slot : Nat → Nat) : Prop where
  shape : u = { s with
    ageCounter := s.ageCounter + 1, fill := some (fillAfter f n), power := if n = 0 then s.power else napEnded s
    table := u.table }
  loose : Loose [] u
  right : HeldRight u
  room : u.heldByMaintenance = s.heldByMaintenance + n
  others : ∀ k, (∀ i, i < n → k ≠ slot i) → u.entry k = s.entry k
  slots : LowestFree s n slot
  made : ∀ i, i < n → ∃ e, u.entry (slot i) = some e ∧ FillEntry s f i e
  unseen : ∀ e : Entry, e.age = f.age → f.first + 8 * n ≤ e.first →
    holdsOf u.table u.fill e = holdsOf s.table none e

variable {f : Fill} {n : Nat} {slot : Nat → Nat}

theorem fillHolds_of_old (old : e.age ≤ f.age) : fillHolds (some f) e = false :=
  Bool.eq_false_of_not_eq_true fun held => by
    have := (fillHolds_eq_true.1 held).1
    omega

theorem holdsOf_fill_of_old {T : List (Nat × Entry)} {F : Option Fill} (old : fillHolds F e = false) :
    holdsOf T F e = holdsOf T none e := by
  unfold holdsOf
  rw [old]
  rfl

theorem begun_start (h : s.tableSound) (none : s.fill = none) (age : f.age = s.ageCounter) (start : f.cursor = f.first)
    (whole : f.count % 8 = 0) (flight : f.inFlight = 0) (slot : Nat → Nat) :
    Begun s { s.takeAge with fill := some f } f 0 slot := by
  obtain ⟨loose, right⟩ := tableSound_iff.1 h
  have after : fillAfter f 0 = f := by
    cases f
    cases start
    cases flight
    rfl
  refine ⟨by rw [after]; rfl, loose.startFill age start whole, fun y hy held => ?_, rfl, fun _ _ => rfl, fun i hi => ?_,
    fun i hi => ?_, fun e same _ => holdsOf_fill_of_old (fillHolds_of_old (Nat.le_of_eq same))⟩
  · obtain ⟨recorded, some⟩ := right y hy held
    have old : fillHolds (.some f) y.2 = false := fillHolds_of_old (age ▸ Nat.le_of_lt (loose.ages.below y hy))
    refine ⟨?_, some⟩
    rw [recorded, none]
    exact (holdsOf_fill_of_old old).symm
  · cases hi
  · cases hi

/-- Three or more maintenance slots were FREE, so one still is. -/
theorem Begun.freeSlot (b : Begun s u f n slot) (few : s.heldByMaintenance ≤ 1) (more : n < 3) :
    ∃ j, u.freeSlot 96 4 = some j := by
  refine freeSlot_isSome ?_
  have := b.room
  unfold State.heldByMaintenance at *
  omega

/-- The lowest FREE slot after the first entries comes next. -/
theorem Begun.lowestFree (b : Begun s u f n slot) {j : Nat} (free : u.freeSlot 96 4 = some j) :
    LowestFree s (n + 1) (Function.update slot n j) ∧ ∀ i, i < n → j ≠ slot i := by
  obtain ⟨low, high, vacant, below⟩ := freeSlot_eq_some free
  have new : ∀ i, i < n → j ≠ slot i := by
    rintro i hi rfl
    obtain ⟨e, he, -⟩ := b.made i hi
    rw [vacant] at he
    cases he
  have vacantBefore : s.entry j = none := (b.others j new).symm.trans vacant
  have kept : ∀ i, i < n → Function.update slot n j i = slot i := fun i hi => Function.update_of_ne (Nat.ne_of_lt hi) _ _
  refine ⟨fun i hi => ?_, new⟩
  rcases Nat.lt_succ_iff_lt_or_eq.1 hi with hi | rfl
  · obtain ⟨lowI, highI, vacantI, order, lowest⟩ := b.slots i hi
    rw [kept i hi]
    refine ⟨lowI, highI, vacantI, fun m hm => by rw [kept m (by omega)]; exact order m hm, fun k hk lt => ?_⟩
    refine (lowest k hk lt).imp id ?_
    rintro ⟨m, hm, rfl⟩
    exact ⟨m, hm, (kept m (by omega)).symm⟩
  · rw [Function.update_self]
    refine ⟨low, high, vacantBefore, fun m hm => ?_, fun k hk lt => ?_⟩
    · rw [kept m hm]
      by_contra le
      obtain ⟨-, -, -, -, lowest⟩ := b.slots m hm
      rcases lowest j low (by have := new m hm; omega) with taken | ⟨l, hl, same⟩
      · exact taken vacantBefore
      · exact new l (by omega) same
    · have taken := below k hk lt
      by_cases mine : ∃ m, m < i ∧ k = slot m
      · obtain ⟨m, hm, same⟩ := mine
        exact .inr ⟨m, hm, by rw [kept m hm]; exact same⟩
      · left
        rw [← b.others k fun m hm same => mine ⟨m, hm, same⟩]
        exact taken

/-- The next entry is created. -/
theorem Begun.next (b : Begun s u f n slot) (few : s.heldByMaintenance ≤ 1) (more : n < 3) (running : f.aborting = false)
    (age : f.age = s.ageCounter) (below : 8 * n < f.count) :
    ∃ j, Begun s u.createFillEntry f (n + 1) (Function.update slot n j) := by
  obtain ⟨j, free⟩ := b.freeSlot few more
  refine ⟨j, ?_⟩
  have hf : u.fill = some (fillAfter f n) := by rw [b.shape]
  have counter : u.ageCounter = s.ageCounter + 1 := by rw [b.shape]
  obtain ⟨y, record, holds, state, eq⟩ := createFillEntry_eq hf running
    (show f.first + 8 * n < f.first + f.count by omega) more free
  obtain ⟨low, high, vacant, -⟩ := freeSlot_eq_some free
  obtain ⟨lowest, new⟩ := b.lowestFree free
  have loose := b.loose
  have owner : y.owner = .maintenance := by rw [record]
  have first : y.first = f.first + 8 * n := by rw [record]; rfl
  have count : y.count = 8 := by rw [record]
  have yAge : y.age = f.age := by rw [record]; rfl
  have table : u.createFillEntry.table = Sparse.insert u.table j y := by rw [eq]
  have entries : ∀ k, u.createFillEntry.entry k = (u.setEntry j y).entry k := fun k => congrArg (Sparse.find? · k) table
  have filled : u.createFillEntry.fill = some (fillAfter f (n + 1)) := by rw [eq]; rfl
  have old : ∀ x ∈ u.table, x.2.age ≤ f.age ∧ (x.2.age = f.age → x.2.first < y.first) := fun x hx => by
    have := loose.ages.below x hx
    obtain ⟨-, -, -, mine⟩ := loose.ages.fill _ hf
    refine ⟨by omega, fun same => ?_⟩
    have := (mine x hx same).1
    rw [first]
    exact this
  have held : HeldRight (u.setEntry j y) := by
    refine b.right.insert loose.wf vacant (fun x hx => Bool.eq_false_of_not_eq_true fun older => ?_) fun isHeld =>
      ⟨holds, ?_⟩
    · have := old x hx
      have := (older_iff _ _).1 older
      omega
    · refine Bool.eq_false_of_not_eq_true fun empty => ?_
      rw [isHeld, if_pos empty] at state
      cases state
  have fillEntry : FillEntry s f n y := by
    refine ⟨record, ?_, state⟩
    rw [holds]
    exact b.unseen y yAge (Nat.le_of_eq first.symm)
  refine ⟨?_, loose.createFillEntry, fun z hz isHeld => ?_, ?_, fun k hk => ?_, lowest, fun i hi => ?_, fun z same later => ?_⟩
  · rw [eq, b.shape]
    unfold napEnded
    by_cases zero : n = 0
    · simp only [zero, if_true]
      rfl
    · by_cases nap : s.power.state = .nap
      · simp only [zero, nap, if_false, if_true, reduceCtorEq]
        rfl
      · simp only [zero, nap, if_false]
        rfl
  · rw [table] at hz ⊢
    obtain ⟨recorded, present⟩ := held z hz isHeld
    have aged : z.2.age ≤ f.age := by
      rcases (mem_insert_iff loose.wf).1 hz with rfl | ⟨hz, -⟩
      · exact Nat.le_of_eq yAge
      · exact (old z hz).1
    refine ⟨?_, present⟩
    rw [recorded, filled, holdsOf_fill_of_old (F := some (fillAfter f (n + 1))) (fillHolds_of_old (by exact aged))]
    exact holdsOf_fill_of_old (by rw [show (u.setEntry j y).fill = u.fill from rfl, hf]; exact fillHolds_of_old aged)
  · have := b.room
    unfold State.heldByMaintenance at *
    rw [occupied_eq] at *
    rw [table, countKeys_insert_new _ _ vacant, this, if_pos (decide_eq_true ⟨low, high⟩)]
    rfl
  · have ne : k ≠ j := by
      have := hk n (Nat.lt_succ_self n)
      rwa [Function.update_self] at this
    rw [entries, entry_setEntry_of_ne u y ne]
    refine b.others k fun i hi => ?_
    have := hk i (Nat.lt_succ_of_lt hi)
    rwa [Function.update_of_ne (Nat.ne_of_lt hi)] at this
  · rcases Nat.lt_succ_iff_lt_or_eq.1 hi with hi | rfl
    · rw [Function.update_of_ne (Nat.ne_of_lt hi), entries, entry_setEntry_of_ne u y (new i hi).symm]
      exact b.made i hi
    · rw [Function.update_self, entries, entry_setEntry_self]
      exact ⟨y, rfl, fillEntry⟩
  · have apart : y.overlaps z = false := by
      unfold Entry.overlaps rangesOverlap
      exact decide_eq_false (by omega)
    rw [table, holdsOf_insert_apart loose.wf vacant apart owner, ← b.unseen z same (by omega), filled, hf,
      holdsOf_fill_of_old (F := some (fillAfter f (n + 1))) (fillHolds_of_old (Nat.le_of_eq same)),
      holdsOf_fill_of_old (F := some (fillAfter f n)) (fillHolds_of_old (Nat.le_of_eq same))]

/-- An entry is created while the range has one left. -/
theorem Begun.create (b : Begun s u f n slot) (few : s.heldByMaintenance ≤ 1) (more : n < 3) (running : f.aborting = false)
    (age : f.age = s.ageCounter) {groups : Nat} (whole : f.count = 8 * groups) (within : n ≤ groups) :
    ∃ slot, Begun s u.createFillEntry f (min (n + 1) groups) slot := by
  by_cases last : n = groups
  · have still : u.createFillEntry = u := by
      have hf : u.fill = some (fillAfter f n) := by rw [b.shape]
      unfold State.createFillEntry
      rw [hf]
      refine if_neg fun may => ?_
      simp only [Bool.and_eq_true, decide_eq_true_eq] at may
      have below : f.first + 8 * n < f.first + f.count := may.1.2
      omega
    rw [still, Nat.min_eq_right (by omega), ← last]
    exact ⟨slot, b⟩
  · obtain ⟨j, next⟩ := b.next few more running age (by omega)
    rw [Nat.min_eq_left (by omega)]
    exact ⟨_, next⟩

/-- The first entries of a fill: three, or as many as its range has. -/
theorem begun_three (h : s.tableSound) (none : s.fill = none) (few : s.heldByMaintenance ≤ 1)
    (age : f.age = s.ageCounter) (start : f.cursor = f.first) (flight : f.inFlight = 0) (running : f.aborting = false)
    {groups : Nat} (whole : f.count = 8 * groups) :
    ∃ slot, Begun s (State.createFillEntries { s.takeAge with fill := some f }) f (min 3 groups) slot := by
  have zero := begun_start h none age start (by omega) flight id
  obtain ⟨_, one⟩ := zero.create few (by omega) running age whole (Nat.zero_le _)
  obtain ⟨_, two⟩ := one.create few (by omega) running age whole (by omega)
  obtain ⟨slot, three⟩ := two.create few (by omega) running age whole (by omega)
  have made : min (min (min (0 + 1) groups + 1) groups + 1) groups = min 3 groups := by omega
  rw [made] at three
  exact ⟨slot, three⟩

/-! ### FILL-START and FILL-ABORT -/

theorem mayFill_iff {first count : Nat} (some : 0 < count) : s.mayFill p first count = true ↔
    ∀ g, first / 2048 ≤ g → g ≤ (first + count - 1) / 2048 → s.rightsOver p g = .readWrite := by
  unfold State.mayFill granuleOf
  have order : first / 2048 ≤ (first + count - 1) / 2048 := Nat.div_le_div_right (by omega)
  simp only [List.all_eq_true, List.mem_range, decide_eq_true_eq]
  constructor
  · intro all g low high
    have := all (g - first / 2048) (by omega)
    rwa [Nat.add_sub_cancel' low] at this
  · intro all i hi
    exact all _ (Nat.le_add_right _ _) (by omega)

theorem badFillRange_iff {first count : Nat} : badFillRange first count = true ↔
    first % 8 ≠ 0 ∨ count % 8 ≠ 0 ∨ count < 8 ∨ 33554432 < first + count := decide_eq_true_iff

/-- The record of a fill as it begins. -/
def fillOf (s : State) (p : Port) (first count : BitVec 32) (pattern : BitVec 64) : Fill :=
  ⟨p, first.toNat, count.toNat, pattern, s.ageCounter, first.toNat, 0, false, none⟩

theorem mayFill_arrived (s : State) (p : Port) (first count : Nat) : (arrived s p).mayFill p first count = s.mayFill p first count := by
  cases p <;> rfl

/-- A vote removed, the port's link changed beside it. -/
theorem removeVote_setLink (s : State) (p : Port) (l : Link) : (s.setLink p l).removeVote p = (s.removeVote p).setLink p l := by
  rw [removeVote_eq, removeVote_eq, vote_setLink]
  split
  · exact voteNotice_setLink s p l _ _
  · rfl

theorem link_removeVote_self (s : State) (p : Port) : (s.removeVote p).link p = s.link p ∧ (s.removeVote p).now = s.now := by
  rw [removeVote_eq]
  split
  · exact ⟨link_voteNotice s p _ _, now_voteNotice s p _ _⟩
  · exact ⟨rfl, rfl⟩

/-- The state a FILL-START leaves before its reply, with `n` entries created in the given table. -/
def fillBegun (s : State) (f : Fill) (n : Nat) (table : List (Nat × Entry)) : State :=
  { s with ageCounter := s.ageCounter + 1, fill := some (fillAfter f n), power := napEnded s, table := table }

theorem lowestFree_arrived {n : Nat} {slot : Nat → Nat} : LowestFree (arrived s p) n slot ↔ LowestFree s n slot := by
  cases p <;> exact Iff.rfl

theorem fillEntry_arrived {f : Fill} {i : Nat} : FillEntry (arrived s p) f i e ↔ FillEntry s f i e := by
  cases p <;> exact Iff.rfl

/-- A FILL-START accepted and answered. -/
theorem takeFillStart_accepted (h : s.readyForRequest p tag) (awake : s.power.state ≠ .entering) (idle : s.fill = none)
    {first count : BitVec 32} (pattern : BitVec 64) (good : badFillRange first.toNat count.toNat = false)
    (few : s.heldByMaintenance ≤ 1) (sound : s.tableSound) (may : s.mayFill p first.toNat count.toNat = true) :
    ∃ u slot, Begun (arrived s p) u (fillOf s p first count pattern) (min 3 (count.toNat / 8)) slot ∧
      takeFillStart p tag first count pattern (arrived s p) =
        ((fillBegun s (fillOf s p first count pattern) (min 3 (count.toNat / 8)) u.table).removeVote p).answered p
          (okReply tag 23 first count []) := by
  have inside : ¬ badFillRange first.toNat count.toNat = true := by
    rw [good]
    exact nofun
  rw [badFillRange_iff] at inside
  have soundA : (arrived s p).tableSound := tableSound_of_beside sound (beside_setLink s p _)
  have idleA : (arrived s p).fill = none := (fill_arrived s p).trans idle
  have fewA : (arrived s p).heldByMaintenance ≤ 1 := by
    have same : (arrived s p).heldByMaintenance = s.heldByMaintenance := by cases p <;> rfl
    rw [same]
    exact few
  have ageA : (fillOf s p first count pattern).age = (arrived s p).ageCounter := (ageCounter_setPort ..).symm
  obtain ⟨slot, begun⟩ := begun_three soundA idleA fewA ageA rfl rfl rfl
    (show (fillOf s p first count pattern).count = 8 * (count.toNat / 8) by simp only [fillOf]; omega)
  refine ⟨_, slot, begun, ?_⟩
  have start : takeFillStart p tag first count pattern (arrived s p) =
      (arrived s p).acceptFill p tag first count pattern := by
    unfold takeFillStart
    rw [if_neg (by rw [power_arrived]; exact awake), if_neg (by rw [good]; exact nofun), if_neg (by rw [idleA]; exact nofun),
      if_neg (by rw [mayFill_arrived, may]; exact nofun)]
  have accepted : (arrived s p).acceptFill p tag first count pattern =
      ((State.createFillEntries { (arrived s p).takeAge with fill := some (fillOf s p first count pattern) }).removeVote
        p).answerOk p tag 23 first count [] := by
    unfold State.acceptFill
    rw [← ageA]
    exact congrArg (fun w : State => (w.removeVote p).answerOk p tag 23 first count []) (reevaluate_of_heldRight begun.right)
  rw [start, accepted]
  generalize State.createFillEntries _ = u at begun ⊢
  have linked : u = (fillBegun s (fillOf s p first count pattern) (min 3 (count.toNat / 8)) u.table).setLink p
      ((s.link p).accepted s.now (some .management)) := by
    refine begun.shape.trans ?_
    rw [if_neg (show min 3 (count.toNat / 8) ≠ 0 by omega)]
    cases p <;> rfl
  have link : (fillBegun s (fillOf s p first count pattern) (min 3 (count.toNat / 8)) u.table).link p = s.link p := by
    cases p <;> rfl
  have now : (fillBegun s (fillOf s p first count pattern) (min 3 (count.toNat / 8)) u.table).now = s.now := rfl
  generalize fillBegun s (fillOf s p first count pattern) (min 3 (count.toNat / 8)) u.table = t at linked link now ⊢
  obtain ⟨ownLink, present⟩ := link_removeVote_self t p
  exact ok_of_effect h ((congrArg (fun w : State => w.removeVote p) linked).trans (removeVote_setLink t p _))
    (ownLink.trans link) (present.trans now) 23 first count []

theorem takeFillStart_refused (h : s.readyForRequest p tag) (awake : s.power.state ≠ .entering)
    {first count : BitVec 32} (pattern : BitVec 64) :
    (badFillRange first.toNat count.toNat = true →
      takeFillStart p tag first count pattern (arrived s p) = s.answered p (failReply tag 23 10 0)) ∧
    (badFillRange first.toNat count.toNat = false → s.fill ≠ none →
      takeFillStart p tag first count pattern (arrived s p) = s.answered p (failReply tag 23 8 0)) ∧
    (badFillRange first.toNat count.toNat = false → s.fill = none → s.mayFill p first.toNat count.toNat = false →
      takeFillStart p tag first count pattern (arrived s p) = s.answered p (failReply tag 23 6 0)) := by
  unfold takeFillStart
  rw [if_neg (by rw [power_arrived]; exact awake), fill_arrived, mayFill_arrived]
  refine ⟨fun bad => ?_, fun good busy => ?_, fun good idle denied => ?_⟩
  · rw [if_pos bad]
    exact fail_arrived h 23 .badValue
  · rw [if_neg (by rw [good]; exact nofun), if_pos (Option.isSome_iff_ne_none.2 busy)]
    exact fail_arrived h 23 .busy
  · rw [if_neg (by rw [good]; exact nofun), if_neg (by rw [idle]; exact nofun), if_pos denied]
    exact fail_arrived h 23 .accessDenied

theorem takeFillAbort_refused (h : s.readyForRequest p tag) (awake : s.power.state ≠ .entering) :
    (s.fill = none → takeFillAbort p tag (arrived s p) = s.answered p (failReply tag 24 11 0)) ∧
    (∀ f, s.fill = some f → f.aborting = true →
      takeFillAbort p tag (arrived s p) = s.answered p (failReply tag 24 8 0)) := by
  unfold takeFillAbort
  rw [if_neg (by rw [power_arrived]; exact awake), fill_arrived]
  refine ⟨fun idle => ?_, fun f running aborting => ?_⟩
  · rw [idle]
    exact fail_arrived h 24 .notFound
  · rw [running]
    exact (if_pos aborting).trans (fail_arrived h 24 .busy)

theorem takeFillAbort_running (awake : s.power.state ≠ .entering) {f : Fill} (running : s.fill = some f)
    (whole : f.aborting = false) : takeFillAbort p tag (arrived s p) = State.setLink
      { s with fill := some { f with aborting := true, abortReply := some (p, tag) } } p
      ((s.link p).accepted s.now (some .management)) := by
  unfold takeFillAbort
  rw [if_neg (by rw [power_arrived]; exact awake), fill_arrived, running]
  refine (if_neg (by rw [whole]; exact nofun)).trans ?_
  cases p <;> rfl

/-- Settles O59: the entries of an accepted fill one by one, and the requests turned away in the order of the checks. -/
theorem fillsStartAndAbort : Obligations.FillsStartAndAbort := by
  refine ⟨fun s p tag first count pattern h awake idle align whole some fits few sound rights => ?_,
    fun s p tag h awake => ⟨fun first count pattern => ?_, fun idle => ?_, fun f running aborting => ?_,
      fun f running still => ?_⟩⟩
  · intro made
    have good : badFillRange first.toNat count.toNat = false := Bool.eq_false_of_not_eq_true fun bad => by
      rw [badFillRange_iff] at bad
      omega
    obtain ⟨u, slot, begun, taken⟩ := takeFillStart_accepted h awake idle pattern good few sound
      ((mayFill_iff (by omega)).2 rights)
    have entries : ∀ k, (arrived s p).entry k = s.entry k := entry_setPort s p _
    refine ⟨fillBegun s (fillOf s p first count pattern) made u.table, _, settled_of_taken h taken, ?_, rfl, slot,
      fun k hk => (begun.others k hk).trans (entries k), fun i hi => ?_⟩
    · rfl
    · obtain ⟨low, high, vacant, order, lowest⟩ := lowestFree_arrived.1 begun.slots i hi
      obtain ⟨e, he, entry⟩ := begun.made i hi
      obtain ⟨record, holds, state⟩ := fillEntry_arrived.1 entry
      exact ⟨low, high, vacant, order, lowest, e, he, record, holds, state⟩
  · obtain ⟨badly, busy, denied⟩ := takeFillStart_refused h awake pattern (first := first) (count := count)
    intro bad
    have good : ¬ bad → badFillRange first.toNat count.toNat = false := fun ok =>
      Bool.eq_false_of_not_eq_true fun k => ok (badFillRange_iff.1 k)
    refine ⟨fun k => settled_of_taken h (badly (badFillRange_iff.2 k)),
      fun ok running => settled_of_taken h (busy (good ok) running), fun ok idle outside => ?_⟩
    refine settled_of_taken h (denied (good ok) idle (Bool.eq_false_of_not_eq_true fun may => ?_))
    obtain ⟨g, low, high, not⟩ := outside
    have positive : 0 < count.toNat := by
      have := mt badFillRange_iff.2 (by rw [good ok]; exact nofun)
      omega
    exact not ((mayFill_iff positive).1 may g low high)
  · exact settled_of_taken h ((takeFillAbort_refused h awake).1 idle)
  · exact settled_of_taken h ((takeFillAbort_refused h awake).2 f running aborting)
  · refine (settled_of_taken (r := .fillAbort) (block := 0) h (takeFillAbort_running awake running still)).trans ?_
    rw [accepted_eq]
    rfl

end Sys2Proof.Machine.Table

end

section
/-! The re-evaluation of a link-down: the orphaned BARRIERs of the port that fall free leave the table, nothing else does
(R35, R36, R42, R43). -/

namespace Sys2Proof.Machine.Table

open Sys2Proof.Machine.Steps Sys2Proof.Machine.Accounts Sys2Proof.Machine.Schedule Sys2Proof.Machine.Upkeep
open Sys2Proof.Machine.Frames

variable {s t u : State} {p : Port} {k : Nat} {e x : Entry}

/-! ### Orphans let go -/

/-- The record is that of an orphan of the port. -/
def OrphanOf (p : Port) (e : Entry) : Prop := ∃ tag n, e.owner = .port p tag n true

theorem freeSlotOf_orphan (he : s.entry k = some e) (own : OrphanOf p e) (down : s.linkActive p = false) :
    s.freeSlotOf k = s.clearSlot k := by
  obtain ⟨tag, n, own⟩ := own
  rw [freeSlotOf_port he (show e.owner.port? = some p by rw [own]; rfl)]
  exact returnCredit_of_not_active (s := s.clearSlot k) down _

/-- Orphans of a port whose link is down leave the table, and nothing else changes. -/
theorem foldl_barrierDone_orphans (finished : List (Nat × Entry)) (s : State) (nodup : (finished.map Prod.fst).Nodup)
    (down : s.linkActive p = false)
    (mine : ∀ y ∈ finished, OrphanOf p y.2 ∧ ∃ e, s.entry y.1 = some e ∧ e.owner = y.2.owner) :
    ∃ T, finished.foldl (fun s x => s.barrierDone x.1 x.2) s = { s with table := T } ∧
      ∀ j, Sparse.find? T j = if j ∈ finished.map Prod.fst then none else s.entry j := by
  induction finished generalizing s with
  | nil => exact ⟨s.table, rfl, fun _ => rfl⟩
  | cons y rest ih =>
    obtain ⟨new, nodup⟩ := List.nodup_cons.1 (List.map_cons ▸ nodup)
    obtain ⟨⟨tag, n, own⟩, e, he, same⟩ := mine y List.mem_cons_self
    have freed : s.barrierDone y.1 y.2 = s.clearSlot y.1 :=
      (barrierDone_orphan own).trans (freeSlotOf_orphan he ⟨tag, n, same.trans own⟩ down)
    obtain ⟨T, eq, found⟩ := ih (s.clearSlot y.1) nodup down fun z hz => by
      have ne : z.1 ≠ y.1 := fun same => new (same ▸ List.mem_map_of_mem hz)
      rw [entry_clearSlot_of_ne s ne]
      exact mine z (List.mem_cons_of_mem _ hz)
    refine ⟨T, by rw [List.foldl_cons, freed, eq]; rfl, fun j => ?_⟩
    rw [found]
    by_cases this : j = y.1
    · rw [this, entry_clearSlot_self, ite_self]
      exact (if_pos List.mem_cons_self).symm
    · rw [entry_clearSlot_of_ne s this]
      exact if_congr (List.mem_cons.trans (or_iff_right this)).symm rfl rfl

/-! ### What the passes leave -/

/-- A record as re-evaluation may leave it: one out of HELD as it was, another in HELD, or out of it with no reason. -/
structure Worked (x e : Entry) : Prop where
  shape : e = { x with state := e.state, holds := e.holds }
  same : x.state ≠ .held → e = x
  held : x.state = .held → e.state = .held ∨ (x.isBarrier = false ∧ e.state = .queued ∧ e.holds.isEmpty = true)

theorem Worked.refl (x : Entry) : Worked x x := ⟨rfl, fun _ => rfl, .inl⟩

theorem Worked.kind (h : Worked x e) : e.kind = x.kind := by rw [h.shape]

theorem Worked.owner (h : Worked x e) : e.owner = x.owner := by rw [h.shape]

theorem Worked.alike (h : Worked x e) : Alike x e := by
  rw [h.shape]
  exact ⟨rfl, rfl, rfl, rfl, rfl⟩

theorem Worked.isBarrier (h : Worked x e) : e.isBarrier = x.isBarrier := by
  unfold Entry.isBarrier
  rw [h.kind]

/-- A record in HELD after it was before. -/
theorem Worked.was_held (h : Worked x e) (held : e.state = .held) : x.state = .held := by
  by_contra other
  exact other (h.same other ▸ held)

theorem Worked.trans {g : Entry} (h : Worked x e) (k : Worked e g) : Worked x g where
  shape := by
    rw [k.shape, h.shape]
  same other := by
    have eq := h.same other
    rw [k.same (eq ▸ other), eq]
  held was := by
    rcases h.held was with held | ⟨other, queued, empty⟩
    · rw [← h.isBarrier]
      exact k.held held
    · rw [k.same (by rw [queued]; exact nofun)]
      exact .inr ⟨other, queued, empty⟩

/-- `t` comes from `s` by working out the HELD records afresh and freeing BARRIERs: orphans of the port that no older entry
of their session holds back in `t`. -/
structure FreesOrphans (p : Port) (s t : State) : Prop where
  wf : Sparse.Wf t.table
  rest : t = { s with table := t.table }
  sub : ∀ k e, t.entry k = some e → ∃ x, s.entry k = some x ∧ Worked x e
  gone : ∀ k x, s.entry k = some x → t.entry k = none → x.state = .held ∧ x.isBarrier = true ∧ OrphanOf p x ∧
    ∀ y ∈ t.table, holdsBack y.2 x = false

theorem FreesOrphans.trans (h : FreesOrphans p s t) (k : FreesOrphans p t u) : FreesOrphans p s u where
  wf := k.wf
  rest := by
    rw [k.rest, h.rest]
  sub j e he := by
    obtain ⟨y, hy, later⟩ := k.sub j e he
    obtain ⟨x, hx, first⟩ := h.sub j y hy
    exact ⟨x, hx, first.trans later⟩
  gone j x hx out := by
    cases hy : t.entry j with
    | none =>
      obtain ⟨held, barrier, own, back⟩ := h.gone j x hx hy
      refine ⟨held, barrier, own, fun z hz => ?_⟩
      obtain ⟨y, hy, worked⟩ := k.sub z.1 z.2 ((mem_table k.wf).1 hz)
      rw [← holdsBack_congr worked.alike (.refl x)]
      exact back (z.1, y) ((mem_table h.wf (x := (z.1, y))).2 hy)
    | some y =>
      obtain ⟨held, barrier, own, back⟩ := k.gone j y hy out
      obtain ⟨w, hw, worked⟩ := h.sub j y hy
      rw [hx] at hw
      cases hw
      refine ⟨worked.was_held held, worked.isBarrier ▸ barrier, ?_, fun z hz => ?_⟩
      · obtain ⟨tag, n, own⟩ := own
        exact ⟨tag, n, worked.owner ▸ own⟩
      · rw [holdsBack_congr (.refl z.2) worked.alike]
        exact back z hz

/-- Every HELD BARRIER is an orphan of the port, or waits for an entry that is none of the port's. -/
def Waits (p : Port) (s : State) : Prop :=
  ∀ x ∈ s.table, x.2.state = .held → x.2.isBarrier = true → OrphanOf p x.2 ∨
    ∃ y ∈ s.table, holdsBack y.2 x.2 = true ∧ y.2.owner.port? ≠ some p

theorem Waits.frees (w : Waits p s) (wf : Sparse.Wf s.table) (h : FreesOrphans p s t) : Waits p t := by
  intro z hz held barrier
  obtain ⟨x, hx, worked⟩ := h.sub z.1 z.2 ((mem_table h.wf).1 hz)
  rcases w (z.1, x) ((mem_table wf (x := (z.1, x))).2 hx) (worked.was_held held) (worked.isBarrier ▸ barrier) with
    ⟨tag, n, own⟩ | ⟨y, hy, back, other⟩
  · exact .inl ⟨tag, n, worked.owner.trans own⟩
  · right
    have there := (mem_table wf).1 hy
    cases he : t.entry y.1 with
    | none =>
      obtain ⟨-, -, ⟨tag, n, own⟩, -⟩ := h.gone y.1 y.2 there he
      exact absurd (show y.2.owner.port? = some p by rw [own]; rfl) other
    | some e =>
      obtain ⟨x', hx', worked'⟩ := h.sub y.1 e he
      rw [there] at hx'
      cases hx'
      refine ⟨(y.1, e), (mem_table h.wf (x := (y.1, e))).2 he, ?_, by rw [worked'.owner]; exact other⟩
      rw [← holdsBack_congr worked'.alike worked.alike]
      exact back

/-- A HELD record worked out afresh, unless it is a BARRIER that falls free. -/
theorem worked_reheld {h : Holds} (stays : ¬ (e.state = .held ∧ e.isBarrier = true ∧ h.isEmpty = true)) :
    Worked e (e.reheld h) := by
  by_cases held : e.state = .held
  · by_cases empty : h.isEmpty = true
    · have other : e.isBarrier = false := Bool.eq_false_of_not_eq_true fun barrier => stays ⟨held, barrier, empty⟩
      rw [reheld_of_empty held empty, if_neg (by rw [other]; exact nofun)]
      exact ⟨rfl, fun out => absurd held out, fun _ => .inr ⟨other, rfl, empty⟩⟩
    · rw [reheld_of_held held (Bool.eq_false_of_not_eq_true empty)]
      exact ⟨rfl, fun out => absurd held out, fun _ => .inl held⟩
  · rw [reheld_of_not_held held]
    exact .refl e

/-- A pass frees the BARRIERs to complete, each an orphan of the port. -/
theorem freesOrphans_reevaluatePass (loose : Loose [] s) (w : Waits p s) (down : s.linkActive p = false) :
    FreesOrphans p s s.reevaluatePass := by
  have orphan : ∀ y ∈ s.barriersToComplete, OrphanOf p y.2 := fun y hy => by
    obtain ⟨hy, held, barrier, empty⟩ := mem_barriersToComplete.1 hy
    refine (w y hy held barrier).resolve_right ?_
    rintro ⟨z, hz, back, -⟩
    rw [(isEmpty_holdsOf_iff.1 empty).1 z hz] at back
    cases back
  obtain ⟨T, eq, found⟩ := foldl_barrierDone_orphans (p := p) s.barriersToComplete (reheldState s)
    (nodup_barriersToComplete loose.wf) down fun y hy => by
      obtain ⟨e, he, -, own⟩ := done_reheldState loose.wf hy
      exact ⟨orphan y hy, e, he, own⟩
  have pass : s.reevaluatePass = { s with table := T } := (reevaluatePass_eq s).trans eq
  have wf : Sparse.Wf T := by
    have := loose.reevaluatePass.wf
    rwa [pass] at this
  have entries : ∀ j, s.reevaluatePass.entry j = if j ∈ s.barriersToComplete.map Prod.fst then none
      else (s.entry j).map fun e => e.reheld (holdsOf s.table s.fill e) := fun j => by
    rw [pass, ← entry_reheldState]
    exact found j
  have sub : ∀ j e, s.reevaluatePass.entry j = some e → ∃ x, s.entry j = some x ∧ Worked x e := fun j e he => by
    rw [entries] at he
    split at he
    · cases he
    · next stays =>
      obtain ⟨x, hx, rfl⟩ := Option.map_eq_some_iff.1 he
      refine ⟨x, hx, worked_reheld fun ⟨held, barrier, empty⟩ => stays (List.mem_map.2 ⟨(j, x), ?_, rfl⟩)⟩
      exact mem_barriersToComplete.2 ⟨(mem_table loose.wf (x := (j, x))).2 hx, held, barrier, empty⟩
  refine ⟨by rw [pass]; exact wf, by rw [pass], sub, fun j x hx out => ?_⟩
  rw [entries, hx] at out
  split at out
  · next finished =>
    obtain ⟨y, hy, rfl⟩ := List.mem_map.1 finished
    obtain ⟨listed, held, barrier, empty⟩ := mem_barriersToComplete.1 hy
    rw [(mem_table loose.wf).1 listed] at hx
    cases hx
    refine ⟨held, barrier, orphan y hy, fun z hz => ?_⟩
    obtain ⟨w, hw, worked⟩ := sub z.1 z.2 ((mem_table (by rw [pass]; exact wf)).1 hz)
    rw [← holdsBack_congr worked.alike (.refl y.2)]
    exact (isEmpty_holdsOf_iff.1 empty).1 (z.1, w) ((mem_table loose.wf (x := (z.1, w))).2 hw)
  · cases out

theorem linkActive_of_rest (h : FreesOrphans p s t) (q : Port) : t.linkActive q = s.linkActive q := by
  rw [h.rest]
  cases q <;> rfl

theorem freesOrphans_reevaluateFor (n : Nat) (loose : Loose [] s) (w : Waits p s) (down : s.linkActive p = false) :
    FreesOrphans p s (reevaluateFor n s) := by
  have once := freesOrphans_reevaluatePass loose w down
  induction n generalizing s with
  | zero => exact once
  | succ n ih =>
    unfold reevaluateFor
    split
    · have still := (linkActive_of_rest once p).trans down
      have waits := w.frees loose.wf once
      exact once.trans (ih loose.reevaluatePass waits still (freesOrphans_reevaluatePass loose.reevaluatePass waits still))
    · exact once

/-- Re-evaluation with the port's link down. -/
theorem freesOrphans_reevaluate (loose : Loose [] s) (w : Waits p s) (down : s.linkActive p = false) :
    FreesOrphans p s s.reevaluate := freesOrphans_reevaluateFor _ loose w down

end Sys2Proof.Machine.Table

end

section
/-! What a link-down leaves (R42, R149, R150, R166, R180). -/

namespace Sys2Proof.Machine.Table

open Sys2Proof.Machine.Steps Sys2Proof.Machine.Accounts Sys2Proof.Machine.Schedule Sys2Proof.Machine.Upkeep
open Sys2Proof.Machine.Requests Sys2Proof.Machine.Frames

variable {s t u : State} {p : Port} {why : DownReason} {k : Nat} {e x : Entry}

/-! ### Barriers (R33) -/

/-- A BARRIER is held back by the older entries of its session alone. -/
theorem holdsBack_barrier {y : Entry} (barrier : e.kind = .barrier) (range : e.first = 0 ∧ e.count = 0) :
    holdsBack y e = (y.older e && sameSession y.owner e.owner) := by
  have apart : y.overlaps e = false := by
    unfold Entry.overlaps rangesOverlap
    exact decide_eq_false (by omega)
  unfold holdsBack Entry.isBarrier
  rw [apart, barrier]
  simp

/-- The reasons of a HELD BARRIER. -/
theorem holds_of_barrier {T : List (Nat × Entry)} {F : Option Fill} (range : e.first = 0 ∧ e.count = 0)
    (some : (holdsOf T F e).isEmpty = false) : holdsOf T F e = ⟨false, true, false⟩ := by
  have hazard : hazardHolds T e = false := by
    refine List.any_eq_false.2 fun y _ => ?_
    have apart : y.2.overlaps e = false := by
      unfold Entry.overlaps rangesOverlap
      exact decide_eq_false (by omega)
    simp [apart]
  have fill : fillHolds F e = false := by
    cases F with
    | none => rfl
    | some f =>
      refine Bool.eq_false_of_not_eq_true fun held => ?_
      have := (fillHolds_eq_true.1 held).2
      omega
  unfold holdsOf at some ⊢
  rw [hazard, fill] at some ⊢
  cases back : barrierHolds T e with
  | true => rfl
  | false =>
    rw [back] at some
    cases some

theorem holds_eq_of_empty {a b : Holds} (ha : a.isEmpty = true) (hb : b.isEmpty = true) : a = b := by
  obtain ⟨_, _, _⟩ := a
  obtain ⟨_, _, _⟩ := b
  obtain ⟨rfl, rfl, rfl⟩ := isEmpty_iff.1 ha
  obtain ⟨rfl, rfl, rfl⟩ := isEmpty_iff.1 hb
  rfl

/-! ### The port's record, its table, its frame -/

/-- The owner an entry has after a link-down of the port. -/
def orphanOwner (p : Port) : Owner → Owner
  | .port q tag n o => .port q tag n (o || decide (q = p))
  | .maintenance => .maintenance

theorem orphanedAtDown_eq (e : Entry) (p : Port) : e.orphanedAtDown p = { e with owner := orphanOwner p e.owner } := by
  obtain ⟨owner⟩ := e
  cases owner <;> rfl

theorem orphanOwner_of_other {o : Owner} (other : o.port? ≠ some p) : orphanOwner p o = o := by
  cases o with
  | maintenance => rfl
  | port q tag n orphan =>
    have ne : q ≠ p := fun same => other (congrArg some same)
    simp [orphanOwner, ne]

theorem orphanedAtDown_of_other (other : e.owner.port? ≠ some p) : e.orphanedAtDown p = e := by
  rw [orphanedAtDown_eq, orphanOwner_of_other other]

theorem droppedAtDown_iff : e.droppedAtDown p = true ↔ e.state = .done ∧ ∃ tag n, e.owner = .port p tag n false := by
  unfold Entry.droppedAtDown
  cases own : e.owner with
  | maintenance => simp
  | port q tag n o =>
    cases o
    · simp [and_comm]
    · simp

/-- The frames a link-down sends (R149, Table 8-6). -/
def downFrames (why : DownReason) : List Frame :=
  if downFrameSent why = true then [⟨6, 0, 0, 0, 0, false, [BitVec.ofNat 8 (downCode why)]⟩] else []

/-- The port's link cleared, its LINK-DOWN frame sent. -/
def silenced (s : State) (p : Port) (why : DownReason) : State :=
  s.setPort p { s.port p with link := Link.cleared, tx := (s.port p).tx ++ downFrames why }

theorem linkDown_eq (active : (s.link p).state = .active) (why : DownReason) : s.linkDown p why =
    (((orphanedState (silenced s p why) p).reevaluate).dropRequests p).removeVote p := by
  unfold State.linkDown
  rw [if_pos (linkActive_of_state active), ← orphanPort_eq]
  refine congrArg (fun w : State => ((w.orphanPort p).dropRequests p).removeVote p) ?_
  unfold silenced downFrames
  split
  · cases p <;> rfl
  · rw [List.append_nil]
    cases p <;> rfl

theorem beside_silenced (s : State) (p : Port) (why : DownReason) : Beside s (silenced s p why) := beside_setPort s p rfl

theorem linkActive_orphanedState (s : State) (p : Port) (why : DownReason) :
    (orphanedState (silenced s p why) p).linkActive p = false := by
  cases p <;> rfl

/-! ### The entries -/

theorem waits_orphanedState (h : s.tableSound) (p : Port) : Waits p (orphanedState s p) := by
  obtain ⟨loose, right⟩ := tableSound_iff.1 h
  intro z hz held barrier
  obtain ⟨x, hx, -, rfl⟩ := mem_orphanedState.1 hz
  simp only at held barrier ⊢
  have like := alike_orphaned x.2 p
  have kind : x.2.kind = .barrier := by
    rw [like.kind]
    exact of_decide_eq_true barrier
  have was : x.2.state = .held := (orphaned_fields x.2 p).1 ▸ held
  obtain ⟨recorded, present⟩ := right x hx was
  obtain ⟨range, -⟩ := loose.records x hx
  by_cases mine : x.2.owner.port? = some p
  · left
    match own : x.2.owner with
    | .maintenance => rw [own] at mine; cases mine
    | .port q tag n o =>
      rw [own] at mine
      cases mine
      exact ⟨tag, n, by rw [orphanedAtDown_eq, own]; simp [orphanOwner]⟩
  · right
    have back : barrierHolds s.table x.2 = true := by
      have := holds_of_barrier (range kind) (recorded ▸ present)
      exact congrArg Holds.barrier this
    obtain ⟨y, hy, holding⟩ := List.any_eq_true.1 back
    simp only [Bool.and_eq_true] at holding
    obtain ⟨⟨older, session⟩, -⟩ := holding
    have other : y.2.owner.port? ≠ some p := fun same => mine (by
      match hown : y.2.owner, xown : x.2.owner with
      | .port q tag n o, .port r tag' n' o' =>
        rw [hown, xown] at session
        rw [hown] at same
        cases same
        exact congrArg some (of_decide_eq_true session).1.symm
      | .maintenance, _ => rw [hown] at session; cases session
      | .port q tag n o, .maintenance => rw [hown, xown] at session; cases session)
    have stays : y.2.droppedAtDown p = false := Bool.eq_false_of_not_eq_true fun dropped => by
      obtain ⟨-, tag, n, own⟩ := droppedAtDown_iff.1 dropped
      exact other (by rw [own]; rfl)
    refine ⟨(y.1, y.2.orphanedAtDown p), mem_orphanedState.2 ⟨y, hy, stays, rfl⟩, ?_, ?_⟩
    · rw [← holdsBack_congr (alike_orphaned y.2 p) like, holdsBack_barrier kind (range kind), older, session]
      rfl
    · rw [orphanedAtDown_of_other other]
      exact other

/-- What a link-down of port `p` leaves of each entry: the listed ones leave, the others stay as orphans worked out afresh,
but for the port's BARRIERs that fall free. -/
structure EndsSession (p : Port) (s t : State) : Prop where
  back : ∀ k e, t.entry k = some e → ∃ x, s.entry k = some x ∧ x.droppedAtDown p = false ∧ Worked (x.orphanedAtDown p) e
  dropped : ∀ k x, s.entry k = some x → x.droppedAtDown p = true → t.entry k = none
  gone : ∀ k x, s.entry k = some x → x.droppedAtDown p = false → t.entry k = none →
    x.state = .held ∧ x.kind = .barrier ∧ x.owner.port? = some p ∧ ∀ y ∈ t.table, holdsBack y.2 x = false

theorem endsSession_of_beside (h : s.tableSound) (b : Beside s u) (f : FreesOrphans p (orphanedState u p) t) :
    EndsSession p s t := by
  have wf : Sparse.Wf u.table := (loose_of_sound (tableSound_of_beside h b)).wf
  have entries := b.entry
  refine ⟨fun k e he => ?_, fun k x hx dropped => ?_, fun k x hx stays out => ?_⟩
  · obtain ⟨y, hy, worked⟩ := f.sub k e he
    obtain ⟨x, hx, stays, rfl⟩ := entry_orphanedState_some wf hy
    exact ⟨x, (entries k).symm.trans hx, stays, worked⟩
  · cases he : t.entry k with
    | none => rfl
    | some e =>
      obtain ⟨y, hy, -⟩ := f.sub k e he
      obtain ⟨x', hx', stays, -⟩ := entry_orphanedState_some wf hy
      rw [entries, hx] at hx'
      cases hx'
      rw [dropped] at stays
      cases stays
  · obtain ⟨held, barrier, ⟨tag, n, own⟩, back⟩ :=
      f.gone k _ (entry_orphanedState_of wf ((entries k).trans hx) stays) out
    have like := alike_orphaned x p
    refine ⟨(orphaned_fields x p).1 ▸ held, ?_, ?_, fun y hy => ?_⟩
    · rw [like.kind]
      exact of_decide_eq_true barrier
    · by_contra other
      rw [orphanedAtDown_of_other other] at own
      exact other (by rw [own]; rfl)
    · rw [holdsBack_congr (.refl y.2) like]
      exact back y hy

theorem freesOrphans_linkDown (h : s.tableSound) (p : Port) (why : DownReason) :
    FreesOrphans p (orphanedState (silenced s p why) p) (orphanedState (silenced s p why) p).reevaluate := by
  have sound := tableSound_of_beside h (beside_silenced s p why)
  exact freesOrphans_reevaluate ((loose_of_sound sound).orphanedState p) (waits_orphanedState sound p)
    (linkActive_orphanedState s p why)

theorem table_linkDown (active : (s.link p).state = .active) (why : DownReason) :
    (s.linkDown p why).table = (orphanedState (silenced s p why) p).reevaluate.table := by
  rw [linkDown_eq active]
  exact ((beside_dropRequests _ p).trans (beside_removeVote _ p)).table

theorem endsSession_linkDown (h : s.tableSound) (active : (s.link p).state = .active) (why : DownReason) :
    EndsSession p s (s.linkDown p why) := by
  have table := table_linkDown active why
  have ends := endsSession_of_beside h (beside_silenced s p why) (freesOrphans_linkDown h p why)
  have entries : ∀ k, (s.linkDown p why).entry k = (orphanedState (silenced s p why) p).reevaluate.entry k :=
    fun k => congrArg (Sparse.find? · k) table
  refine ⟨fun k => ?_, fun k => ?_, fun k => ?_⟩
  · rw [entries]
    exact ends.back k
  · rw [entries]
    exact ends.dropped k
  · rw [entries, table]
    exact ends.gone k

end Sys2Proof.Machine.Table

end

section
/-! A link-down: the frame, the port's record, the other port's notice, and each entry. -/

namespace Sys2Proof.Machine.Table

open Sys2Proof.Machine.Steps Sys2Proof.Machine.Accounts Sys2Proof.Machine.Schedule Sys2Proof.Machine.Upkeep
open Sys2Proof.Machine.Requests Sys2Proof.Machine.Frames

variable {s t u : State} {p : Port} {why : DownReason} {k : Nat} {e x : Entry}

/-! ### The ports (R148, R150, R180) -/

/-- What a vote removed writes: the port's vote, and the notice on the other port. -/
theorem removeVote_shape (u : State) (p : Port) : u.removeVote p =
    (u.setPort p { u.port p with vote := false }).setPort (otherPort p)
      ((if (u.port p).vote = true then u.raiseNotice (otherPort p) (.retainVote false) else u).port (otherPort p)) := by
  rw [removeVote_eq]
  by_cases held : (u.port p).vote = true
  · rw [if_pos held, if_pos held]
    have may : ((u.setVote p false).linkActive (otherPort p) && (u.setVote p false).noticeEnabled (otherPort p) (.retainVote false)) =
        (u.linkActive (otherPort p) && u.noticeEnabled (otherPort p) (.retainVote false)) := by
      cases p <;> rfl
    unfold State.raiseNotice
    rw [may]
    split
    · cases p <;> rfl
    · cases p <;> rfl
  · rw [if_neg held, if_neg held]
    have off : { u.port p with vote := false } = u.port p := by
      rw [← Bool.eq_false_of_not_eq_true held]
    rw [off]
    cases p <;> rfl

/-- A notice on a port reads that port and the store alone. -/
theorem port_raiseNotice_congr {q : Port} (port : u.port q = s.port q) (store : u.store = s.store) (n : Notice) :
    (u.raiseNotice q n).port q = (s.raiseNotice q n).port q := by
  have active : u.linkActive q = s.linkActive q := linkActive_congr (congrArg (fun r : PortRec => r.link.state) port)
  have enabled : u.noticeEnabled q n = s.noticeEnabled q n := by
    unfold State.noticeEnabled
    rw [store]
  have link : u.link q = s.link q := congrArg PortRec.link port
  unfold State.raiseNotice
  rw [active, enabled]
  split
  · simp only [State.setLink, port_setPort_self, port, link]
  · exact port

theorem dropRequests_eq (s : State) (p : Port) : s.dropRequests p = { s with
    mgmt := ⟨s.mgmt.queue.filter fun q => q.port ≠ p, if s.mgmt.unit = .stopped p then .free else s.mgmt.unit⟩
    fill := s.fill.map fun f : Fill =>
      { f with abortReply := if ∃ tag, f.abortReply = some (p, tag) then none else f.abortReply } } := by
  have fill : (s.dropRequests p).fill = s.fill.map fun f : Fill =>
      { f with abortReply := if ∃ tag, f.abortReply = some (p, tag) then none else f.abortReply } := by
    unfold State.dropRequests
    refine Option.map_congr fun f _ => ?_
    split
    · next q tag reply =>
      by_cases mine : q = p
      · rw [if_pos mine, if_pos ⟨tag, by rw [reply, mine]⟩]
      · rw [if_neg mine, if_neg (by rw [reply]; rintro ⟨_, same⟩; cases same; exact mine rfl), reply]
    · next reply =>
      rw [if_neg (by rw [reply]; exact nofun)]
  exact congrArg (fun F : Option Fill => { s with mgmt := (s.dropRequests p).mgmt, fill := F }) fill

/-- The notice of a vote removed, on the other port. -/
theorem port_notice_congr (vote : (u.port p).vote = (s.port p).vote) (port : u.port (otherPort p) = s.port (otherPort p))
    (store : u.store = s.store) (n : Notice) :
    (if (u.port p).vote = true then u.raiseNotice (otherPort p) n else u).port (otherPort p) =
      (if (s.port p).vote = true then s.raiseNotice (otherPort p) n else s).port (otherPort p) := by
  rw [vote]
  split
  · exact port_raiseNotice_congr port store n
  · exact port

/-- The state a link-down leaves, part by part. -/
theorem linkDown_shape (h : s.tableSound) (active : (s.link p).state = .active) (why : DownReason) :
    s.linkDown p why = State.setPort (State.setPort { s with
      table := (s.linkDown p why).table
      mgmt := ⟨s.mgmt.queue.filter fun q => q.port ≠ p, if s.mgmt.unit = .stopped p then .free else s.mgmt.unit⟩
      fill := s.fill.map fun f : Fill =>
        { f with abortReply := if ∃ tag, f.abortReply = some (p, tag) then none else f.abortReply } }
      p { s.port p with
        link := Link.cleared, session := (s.port p).session + 1, replies := [], vote := false
        tx := (s.port p).tx ++ downFrames why })
      (otherPort p)
      ((if (s.port p).vote = true then s.raiseNotice (otherPort p) (.retainVote false) else s).port (otherPort p)) := by
  rw [table_linkDown active, linkDown_eq active]
  have rest := (freesOrphans_linkDown h p why).rest
  generalize State.reevaluate _ = r at rest ⊢
  have shape : r = State.setPort { s with table := r.table } p { s.port p with
      link := Link.cleared, session := (s.port p).session + 1, replies := [], tx := (s.port p).tx ++ downFrames why } :=
    rest.trans (by cases p <;> rfl)
  generalize r.table = T at shape ⊢
  subst shape
  rw [removeVote_shape]
  have notice := port_notice_congr (u := State.dropRequests (State.setPort { s with table := T } p { s.port p with
      link := Link.cleared, session := (s.port p).session + 1, replies := [], tx := (s.port p).tx ++ downFrames why }) p)
    (s := s) (p := p) (by cases p <;> rfl) (by cases p <;> rfl) (by cases p <;> rfl) (.retainVote false)
  rw [notice, dropRequests_eq]
  cases p <;> rfl

/-! ### The entries, one by one -/

theorem held_done_ne (held : x.state = .held) (p : Port) : x.droppedAtDown p = false :=
  droppedAtDown_of_not_done (by rw [held]; exact nofun) p

theorem not_dropped_of_other (other : x.owner.port? ≠ some p) : x.droppedAtDown p = false :=
  Bool.eq_false_of_not_eq_true fun dropped => by
    obtain ⟨-, tag, n, own⟩ := droppedAtDown_iff.1 dropped
    exact other (by rw [own]; rfl)

/-- An entry of another owner stays. -/
theorem EndsSession.stays (h : EndsSession p s t) (hx : s.entry k = some x) (other : x.owner.port? ≠ some p) :
    t.entry k ≠ none := fun out =>
  other (h.gone k x hx (not_dropped_of_other other) out).2.2.1

/-- An entry that stays, worked out afresh. -/
theorem EndsSession.worked (h : EndsSession p s t) (hx : s.entry k = some x) (stays : t.entry k ≠ none) :
    ∃ e, t.entry k = some e ∧ Worked (x.orphanedAtDown p) e := by
  obtain ⟨e, he⟩ := Option.ne_none_iff_exists'.1 stays
  obtain ⟨x', hx', -, worked⟩ := h.back k e he
  rw [hx] at hx'
  cases hx'
  exact ⟨e, he, worked⟩

theorem worked_shape (worked : Worked (x.orphanedAtDown p) e) :
    e = { x with owner := orphanOwner p x.owner, state := e.state, holds := e.holds } := by
  have shape := worked.shape
  rw [orphanedAtDown_eq] at shape
  exact shape

/-- An entry that is no BARRIER stays unless it was listed. -/
theorem EndsSession.other_kind (h : EndsSession p s t) (sound : t.tableSound) (hx : s.entry k = some x)
    (kind : x.kind ≠ .barrier) (stays : x.droppedAtDown p = false) :
    ∃ e, t.entry k = some e ∧ e = { x with owner := orphanOwner p x.owner, state := e.state, holds := e.holds } ∧
      (x.state ≠ .held → e.state = x.state ∧ e.holds = x.holds) ∧
      (x.state = .held → e.holds = holdsOf t.table t.fill e ∧ e.state = if e.holds.isEmpty then .queued else .held) := by
  obtain ⟨loose, right⟩ := tableSound_iff.1 sound
  obtain ⟨e, he, worked⟩ := h.worked hx fun out => kind (h.gone k x hx stays out).2.1
  have listed := (mem_table loose.wf (x := (k, e))).2 he
  obtain ⟨state, holds, -⟩ := orphaned_fields x p
  refine ⟨e, he, worked_shape worked, fun out => ?_, fun was => ?_⟩
  · rw [worked.same (by rw [state]; exact out)]
    exact ⟨state, holds⟩
  · rcases worked.held (state.trans was) with held | ⟨-, queued, empty⟩
    · obtain ⟨recorded, present⟩ := right (k, e) listed held
      exact ⟨recorded, by rw [present, held]; rfl⟩
    · have free := loose.free (k, e) listed (by rw [queued]; exact nofun)
      exact ⟨holds_eq_of_empty empty free, by rw [empty, queued]; rfl⟩

/-- A HELD BARRIER of a sound table carries the BARRIER reason alone. -/
theorem holds_of_heldBarrier (sound : s.tableSound) (hx : s.entry k = some x) (kind : x.kind = .barrier)
    (held : x.state = .held) : x.holds = ⟨false, true, false⟩ := by
  obtain ⟨loose, right⟩ := tableSound_iff.1 sound
  have listed := (mem_table loose.wf (x := (k, x))).2 hx
  obtain ⟨recorded, present⟩ := right _ listed held
  obtain ⟨range, -⟩ := loose.records _ listed
  exact recorded.trans (holds_of_barrier (range kind) (recorded ▸ present))

/-- A HELD BARRIER that stays is HELD as it was. -/
theorem EndsSession.heldBarrier (h : EndsSession p s t) (soundS : s.tableSound) (sound : t.tableSound)
    (hx : s.entry k = some x) (kind : x.kind = .barrier) (held : x.state = .held) (stays : t.entry k ≠ none) :
    t.entry k = some { x with owner := orphanOwner p x.owner } := by
  obtain ⟨e, he, worked⟩ := h.worked hx stays
  obtain ⟨state, -, -⟩ := orphaned_fields x p
  have barrier : (x.orphanedAtDown p).isBarrier = true := decide_eq_true ((alike_orphaned x p).kind.symm.trans kind)
  have still : e.state = .held := by
    refine (worked.held (state.trans held)).resolve_right ?_
    rintro ⟨other, -⟩
    rw [barrier] at other
    cases other
  have ekind : e.kind = .barrier := worked.kind.trans ((alike_orphaned x p).kind.symm.trans kind)
  rw [he, worked_shape worked, holds_of_heldBarrier sound he ekind still, still, ← held,
    ← holds_of_heldBarrier soundS hx kind held]

theorem EndsSession.barrier_other (h : EndsSession p s t) (soundS : s.tableSound) (sound : t.tableSound)
    (hx : s.entry k = some x) (kind : x.kind = .barrier) (other : x.owner.port? ≠ some p) : t.entry k = some x := by
  have stays := h.stays hx other
  by_cases held : x.state = .held
  · rw [h.heldBarrier soundS sound hx kind held stays, orphanOwner_of_other other]
  · obtain ⟨e, he, worked⟩ := h.worked hx stays
    rw [orphanedAtDown_of_other other] at worked
    rw [he, worked.same held]

/-- A HELD BARRIER of the port stays just where an older entry of its session is left. -/
theorem EndsSession.barrier_stays (h : EndsSession p s t) (soundS : s.tableSound) (sound : t.tableSound)
    (hx : s.entry k = some x) (kind : x.kind = .barrier) (held : x.state = .held) : t.entry k ≠ none ↔
      ∃ y ∈ t.table, y.2.older x = true ∧ sameSession y.2.owner x.owner = true := by
  obtain ⟨loose, right⟩ := tableSound_iff.1 sound
  obtain ⟨range, -⟩ := (loose_of_sound soundS).records _ ((mem_table (loose_of_sound soundS).wf (x := (k, x))).2 hx)
  have back : ∀ y : Entry, holdsBack y x = true ↔ y.older x = true ∧ sameSession y.owner x.owner = true := fun y => by
    rw [holdsBack_barrier kind (range kind), Bool.and_eq_true]
  constructor
  · intro stays
    obtain ⟨e, he, worked⟩ := h.worked hx stays
    have eq := h.heldBarrier soundS sound hx kind held stays
    rw [he] at eq
    cases eq
    obtain ⟨recorded, present⟩ := right _ ((mem_table loose.wf (x := (k, _))).2 he) held
    have notFree : ¬ ∀ y ∈ t.table, holdsBack y.2 x = false := fun free => by
      have like : Alike x { x with owner := orphanOwner p x.owner } := by
        have := alike_orphaned x p
        rwa [orphanedAtDown_eq] at this
      have empty : (holdsOf t.table t.fill { x with owner := orphanOwner p x.owner }).isEmpty = true := by
        refine isEmpty_holdsOf_iff.2 ⟨fun y hy => (holdsBack_congr (.refl _) like.symm).trans (free y hy), ?_⟩
        have only := holds_of_barrier (e := { x with owner := orphanOwner p x.owner }) (by exact range kind)
          (recorded ▸ present)
        exact congrArg Holds.fill only
      rw [← recorded, present] at empty
      cases empty
    push Not at notFree
    obtain ⟨y, hy, holding⟩ := notFree
    exact ⟨y, hy, (back y.2).1 (by simpa using holding)⟩
  · rintro ⟨y, hy, older, session⟩ out
    have free := (h.gone k x hx (held_done_ne held p) out).2.2.2 y hy
    rw [(back y.2).2 ⟨older, session⟩] at free
    cases free

/-! ### The frame (R149) -/

theorem tx_returnCredit (s : State) (p q : Port) (cls : RequestClass) :
    ((s.returnCredit q cls).port p).tx = (s.port p).tx := by
  unfold State.returnCredit
  split
  · cases p <;> cases q <;> rfl
  · rfl

theorem tx_freeSlotOf (s : State) (p : Port) (slot : Nat) : ((s.freeSlotOf slot).port p).tx = (s.port p).tx := by
  cases he : s.entry slot with
  | none =>
    unfold State.freeSlotOf
    rw [he]
  | some e =>
    unfold State.freeSlotOf
    rw [he]
    simp only
    split
    · cases p <;> rfl
    · rw [tx_returnCredit]
      cases p <;> rfl

theorem tx_barrierDone (s : State) (p : Port) (y : Nat × Entry) : ((s.barrierDone y.1 y.2).port p).tx = (s.port p).tx := by
  match own : y.2.owner with
  | .maintenance => rw [barrierDone_maintenance own]
  | .port q tag n true => rw [barrierDone_orphan own, tx_freeSlotOf]
  | .port q tag n false =>
    rw [barrierDone_live own]
    cases p <;> cases q <;> rfl

theorem tx_foldl_barrierDone (l : List (Nat × Entry)) (s : State) (p : Port) :
    ((l.foldl (fun s x => s.barrierDone x.1 x.2) s).port p).tx = (s.port p).tx := by
  induction l generalizing s with
  | nil => rfl
  | cons y rest ih => rw [List.foldl_cons, ih, tx_barrierDone]

theorem tx_reevaluatePass (s : State) (p : Port) : (s.reevaluatePass.port p).tx = (s.port p).tx := by
  rw [reevaluatePass_eq, tx_foldl_barrierDone]
  cases p <;> rfl

theorem tx_reevaluate (s : State) (p : Port) : (s.reevaluate.port p).tx = (s.port p).tx := by
  have passes : ∀ n s, ((reevaluateFor n s).port p).tx = (s.port p).tx := fun n => by
    induction n with
    | zero => exact fun s => tx_reevaluatePass s p
    | succ n ih =>
      intro s
      unfold reevaluateFor
      split
      · rw [ih, tx_reevaluatePass]
      · exact tx_reevaluatePass s p
  exact passes _ s

theorem tx_removeVote (s : State) (p : Port) : ((s.removeVote p).port p).tx = (s.port p).tx := by
  rw [removeVote_shape]
  cases p <;> rfl

theorem tx_linkDown (active : (s.link p).state = .active) (why : DownReason) :
    ((s.linkDown p why).port p).tx = (s.port p).tx ++ downFrames why := by
  have requests : ∀ u : State, ((u.dropRequests p).port p).tx = (u.port p).tx := fun u => by cases p <;> rfl
  rw [linkDown_eq active, tx_removeVote, requests, tx_reevaluate]
  cases p <;> rfl

/-- Settles O51: the frame, then part by part of the state and entry by entry of the table. -/
theorem linkDownEndsTheSession : Obligations.LinkDownEndsTheSession := by
  refine ⟨fun s p reason => ⟨execLinkDownFrame_of_not_receives reason, fun receives => ?_⟩, fun s p why active sound => ?_,
    fun s p active => ?_⟩
  · exact if_neg (by rw [receives]; exact nofun)
  · intro t orphaned sent
    have shape := linkDown_shape sound active why
    have ends := endsSession_linkDown sound active why
    have soundAfter : t.tableSound := tableSound_linkDown sound p why
    have owner : ∀ o, orphaned o = orphanOwner p o := fun o => by cases o <;> rfl
    have frames : sent = downFrames why := by
      simp only [sent]
      cases why <;> rfl
    rw [frames]
    refine ⟨?_, ?_, fun k e he => ?_, fun k x tag n hx own done => ends.dropped k x hx (droppedAtDown_iff.2 ⟨done, tag, n, own⟩),
      fun k x hx other => ends.stays hx other, fun k x hx kind unlisted => ?_, fun k x hx kind => ⟨?_, ?_⟩, ?_⟩
    · exact (congrArg (fun w : State => w.port p) shape).trans (by cases p <;> rfl)
    · exact (congrArg (fun w : State => w.port (otherPort p)) shape).trans (port_setPort_self ..)
    · obtain ⟨x, hx, -, worked⟩ := ends.back k e he
      have eq := worked_shape worked
      refine ⟨x, hx, ?_⟩
      rw [owner, eq]
      exact ⟨rfl, rfl, rfl, rfl, rfl, rfl⟩
    · rw [owner]
      exact ends.other_kind soundAfter hx kind (Bool.eq_false_of_not_eq_true fun dropped => unlisted (droppedAtDown_iff.1 dropped))
    · exact ends.barrier_other sound soundAfter hx kind
    · intro tag n o own held
      have stays := ends.barrier_stays sound soundAfter hx kind held
      refine ⟨fun none => ?_, fun some => ?_⟩
      · by_contra left
        obtain ⟨y, hy, older, session⟩ := stays.1 left
        rw [none y hy older] at session
        cases session
      · rw [ends.heldBarrier sound soundAfter hx kind held (stays.2 some), own]
        simp [orphanOwner]
    · have portA : t.portA = _ := congrArg State.portA shape
      have portB : t.portB = _ := congrArg State.portB shape
      refine shape.trans ?_
      rw [portA, portB]
      cases p <;> rfl
  · exact ⟨tx_linkDown active _, tx_linkDown active _, tx_linkDown active _, tx_linkDown active _,
      (tx_linkDown active _).trans (List.append_nil _), (tx_linkDown active _).trans (List.append_nil _)⟩

end Sys2Proof.Machine.Table

end
